-- ==== Sys2Proof/Word.lean ====
section
/-! DEFINITION. The data widths of the block (spec R7, R50, R78). -/

namespace Sys2Proof

/-- R7: "Every datum the SFC moves or computes is an unsigned 8-bit byte". -/
abbrev Byte := BitVec 8

/-- R50: a host address, 6 bits. -/
abbrev HostAddr := BitVec 6

/-- R78: a host transaction word, 15 bits: W in bit 14, A in bits 13 to 8, D in bits 7 to 0. -/
abbrev HostWord := BitVec 15

end Sys2Proof
end

