-- ==== Sys2Proof/Syntax.lean ====
section
/-! DEFINITION. The steps the block can take (spec R79, R80): one constructor of `Instr` per row of the opcode table,
and the raw steps the agents offer, before they are decoded. -/

namespace Sys2Proof

/-- R79: the seven formats of the opcode table. -/
inductive Format where
  | hostRead
  | hostWrite
  | txPort
  | rxPort
  | internal
  | timeBase
  | reset
deriving DecidableEq, Repr

/-- A step as an agent offers it, before decoding: a host access is a 15-bit transaction word (R78); "Stream and
internal steps carry no transaction word; each is a distinct step kind" (R79). -/
inductive RawStep where
  /-- The host puts one transaction word on the register interface (R78). -/
  | host (w : HostWord)
  /-- The transmit sink takes one byte (R173). -/
  | txPort
  /-- The receive source delivers the byte `b` (R174). -/
  | rxPort (b : Byte)
  /-- The block's own scanner moves (R175). -/
  | internal
  /-- One period of the time base (R176). -/
  | timeBase
  /-- The platform asserts reset (R220). -/
  | reset
deriving DecidableEq, Repr, Inhabited

/-- One constructor per row of the opcode table, in its order. -/
inductive Instr where
  /-- RD: host read of address `a` (R140); the word's data bits are ignored (R78). -/
  | rd (a : HostAddr)
  /-- WR_CTRL (R142). -/
  | wrCtrl (d : Byte)
  /-- WR_FLAGS, write-1-to-clear (R143). -/
  | wrFlags (d : Byte)
  /-- SEND: the value 0x01 written to CMD (R147). -/
  | send
  /-- ABORT: the value 0x02 written to CMD (R148). -/
  | abort
  /-- ACK: the value 0x03 written to CMD (R149). -/
  | ack
  /-- CMD_RSVD: any other value written to CMD (R150). -/
  | cmdRsvd (d : Byte)
  /-- WR_TX_CAT (R144). -/
  | wrTxCat (d : Byte)
  /-- WR_TX_FN (R144). -/
  | wrTxFn (d : Byte)
  /-- WR_TX_LEN (R144). -/
  | wrTxLen (d : Byte)
  /-- WR_TX_DATA: operand index `i`, 0 to 14 (R145). -/
  | wrTxData (i : BitVec 4) (d : Byte)
  /-- WR_IGNORED, the row of address 0x01, STATUS (R146). -/
  | wrIgnoredStatus (d : Byte)
  /-- WR_IGNORED, the row of address 0x04, CMDRES (R146). -/
  | wrIgnoredCmdres (d : Byte)
  /-- WR_IGNORED, the row of addresses 0x08 to 0x0F, of which `a` is the low three bits (R146). -/
  | wrIgnoredResult (a : BitVec 3) (d : Byte)
  /-- WR_IGNORED, the row of the reserved address 0x1F (R146). -/
  | wrIgnoredGap (d : Byte)
  /-- WR_IGNORED, the row of addresses 0x20 to 0x3F, of which `a` is the low five bits (R146). -/
  | wrIgnoredUpper (a : BitVec 5) (d : Byte)
  /-- TX_POP (R173). -/
  | txPop
  /-- RX_BYTE carrying `b` (R174). -/
  | rxByte (b : Byte)
  /-- SCAN (R175). -/
  | scan
  /-- TICK (R176). -/
  | tick
  /-- RESET (R220). -/
  | reset
deriving DecidableEq, Repr

end Sys2Proof
end

