-- ==== Sys2Proof/Config.lean ====
section
/-! DEFINITION. The parameters of the block (spec R6) and the free values: what the spec leaves to the environment. An
open parameter is an uninterpreted constant, so that a claim about the model holds for every value of it. -/

namespace Sys2Proof

/-- R6: "largest operand count `n` of a frame", fixed. -/
def Config.maxOperands : Nat := 15

/-- R6: `3 + MAX_OPERANDS`, "the largest frame in bytes", fixed. -/
def Config.maxFrame : Nat := 3 + Config.maxOperands

/-- `T_RESP - 1`, the TICK steps of an attempt that do not end it; OPEN (R6, P1). -/
opaque Config.ticksBeforeDeadline : Nat

/-- R6: `T_RESP`, "the per-attempt budget, in TICK steps", OPEN, any integer of at least 1. -/
def Config.tResp : Nat := Config.ticksBeforeDeadline + 1

/-- The bits of the response timer beyond the fewest that `2^TW > T_RESP - 1` allows; OPEN (R6, P3). -/
opaque Config.spareTimerBits : Nat

/-- R6: `TW`, "the width in bits of the response timer", OPEN, any integer with `2^TW > T_RESP - 1`. -/
def Config.tw : Nat := Nat.size Config.ticksBeforeDeadline + Config.spareTimerBits

/-- R6: `TICK_PERIOD`, "the real time one TICK step stands for; no rule depends on it", OPEN, in the platform's own
unit of time. -/
opaque Config.tickPeriod : Nat

/-- The free draw of the environment (93_implementation_defined.md I8 to I13, R177): the step some agent offers when
`State.pending` lists none, for the `n`-th such draw. -/
opaque Config.agentStep : Nat → RawStep

/-- The free byte that stands for `s.tx_buf[i]` with `i` above 17, of which the spec states nothing (R34 gives indices
0 to 17; R39 item 6 keeps every reachable state below). -/
opaque Config.txBufBeyond : Nat → Byte

end Sys2Proof
end

