-- ==== Sys2Proof/Machine/Codec.lean ====
section
/-! DEFINITION. The pure functions of the codec: checksum, frame encoder, boundary detection and decoder (spec
40_checksum_encode.md and 41_frame_decode.md). They read nothing but their arguments (R127). -/

namespace Sys2Proof.Machine

open Sys2Proof

/-! ## Checksum and encoder -/

/-- R100: `acc <- (acc + b) mod 256` over the bytes in order; the carry out of bit 7 is discarded. -/
def sum8 (s : List Byte) : Byte := s.foldl (· + ·) 0x00#8

/-- R72: the category as a byte, `b0 & 0xF0`. -/
def categoryOf (b0 : Byte) : Byte := b0 &&& 0xF0#8

/-- R72: the operand count of byte 0, `b0[3:0]`. -/
def countOf (b0 : Byte) : BitVec 4 := b0.extractLsb' 0 4

/-- R102: `byte0(cat, n) = (cat & 0xF0) | n`, for `0 <= n <= 15`. -/
def byte0 (cat : Byte) (n : Nat) : Byte := categoryOf cat ||| BitVec.ofNat 8 n

/-- R103: the frame's bytes before its checksum. -/
def frameHead (cat fn : Byte) (data : List Byte) : List Byte := [byte0 cat data.length, fn] ++ data

/-- R71, R101: the whole frame, its checksum the 8-bit sum of every byte before it. -/
def frameBytes (cat fn : Byte) (data : List Byte) : List Byte :=
  frameHead cat fn data ++ [sum8 (frameHead cat fn data)]

/-- R11: how encoding fails. -/
inductive EncodeError where
  | invalidOperand
deriving DecidableEq, Repr

/-- R103: `encode(cat, fn, data)`; `InvalidOperand` exactly when there are more than 15 operands. -/
def encodeFrame (cat fn : Byte) (data : List Byte) : Except EncodeError (List Byte) :=
  if data.length > Config.maxOperands then .error .invalidOperand else .ok (frameBytes cat fn data)

/-! ## Boundary detection and decoder -/

/-- R120: `frameLength(b0) = 3 + (b0 & 0x0F)`. -/
def frameLength (b0 : Byte) : Nat := 3 + (countOf b0).toNat

/-- R122: the decoded frame record. -/
structure Frame where
  b0       : Byte
  category : Byte
  n        : BitVec 4
  function : Byte
  data     : List Byte
  checksum : Byte
deriving DecidableEq, Repr

/-- R122: `frameOf(f)`, for a frame `f` of length `L = 3 + n`; of such a list every byte read is there, so the
defaults are never taken. -/
def frameOf (f : List Byte) : Frame :=
  let b0 := f.getD 0 0x00#8
  { b0       := b0
    category := categoryOf b0
    n        := countOf b0
    function := f.getD 1 0x00#8
    data     := (f.drop 2).take (countOf b0).toNat
    checksum := f.getD (frameLength b0 - 1) 0x00#8 }

/-- R11: the three outcomes of the decoder. -/
inductive DecodeResult where
  | incomplete
  | invalid
  | decoded (frame : Frame) (bytesConsumed : Nat)
deriving DecidableEq, Repr

/-- R121: `tryDecode(buf)`. Bytes after the frame are not read (R124). -/
def tryDecode : List Byte → DecodeResult
  | [] => .incomplete
  | b0 :: rest =>
    let buf := b0 :: rest
    let len := frameLength b0
    if buf.length < len then .incomplete
    else if buf[len - 1]? = some (sum8 (buf.take (len - 1))) then .decoded (frameOf (buf.take len)) len
    else .invalid

end Sys2Proof.Machine
end

