-- ==== Sys2Proof/Machine/State.lean ====
section
/-! DEFINITION. The state of the block as plain data (spec 10_state.md), the ways a step can stop, and the state right
after reset (spec R220). -/

namespace Sys2Proof.Machine

open Sys2Proof

/-- The block takes no trap and never halts (R205: "A model has no fault outcome for the SFC itself"), so there is no
fault: nobody raises one. Safe, since the spec gives none. -/
inductive Fault where
deriving DecidableEq, Repr

/-- Why a meaning answers no next state. -/
inductive Refusal where
  /-- An instruction without a meaning, refused by `exec` under its mnemonic. Raised by nobody in this model. Safe. -/
  | notModelled (mnemonic : String)
  /-- The step is not one of those that "may be taken next" in this state (R177). Raised by the meanings of TX_POP
  without a frame in transmission, RX_BYTE while `s.scan` is 1 and SCAN while it is 0; `step` never offers them so.
  Safe: the model claims nothing about a step that cannot be taken. -/
  | notEnabled
deriving DecidableEq, Repr

/-- Every piece of state the spec gives the block, and the environment's side of its ports. -/
structure State where
  /-- `CTRL` (R23). -/
  ctrl      : Byte
  /-- `FLAGS` (R25). -/
  flags     : Byte
  /-- `CMDRES` (R27). -/
  cmdres    : Byte
  /-- `TX_CAT` (R28). -/
  regTxCat  : Byte
  /-- `TX_FN` (R28). -/
  regTxFn   : Byte
  /-- `TX_LEN` (R28). -/
  regTxLen  : Byte
  /-- `TX_DATA[0..14]` (R29). -/
  regTxData : Vector Byte 15
  /-- `RES_KIND` (R30). -/
  resKind   : Byte
  /-- `RX_B0` (R31). -/
  rxB0      : Byte
  /-- `RX_FN` (R31). -/
  rxFn      : Byte
  /-- `RX_CHK` (R31). -/
  rxChk     : Byte
  /-- `RX_CNT` (R31). -/
  rxCnt     : Byte
  /-- `RX_DATA[0..14]` (R32). -/
  rxData    : Vector Byte 15
  /-- `s.tx_busy` (R34). -/
  txBusy    : Bool
  /-- `s.tx_buf`, the latched frame (R34). -/
  txBuf     : Vector Byte 18
  /-- `s.tx_len`, the latched frame's length (R34). -/
  txLen     : BitVec 5
  /-- `s.tx_idx`, the index of the next byte to send (R34). -/
  txIdx     : BitVec 5
  /-- `s.rx_armed`: an attempt is open (R35). -/
  rxArmed   : Bool
  /-- `s.rx_buf`, the bytes of the frame being assembled, oldest first (R35). -/
  rxBuf     : List Byte
  /-- `s.scan`: the buffer must be evaluated again before another byte is taken (R35). -/
  scan      : Bool
  /-- `s.timer`, the TICK steps since arming (R36), a number below `2^TW`. -/
  timer     : Nat
  /-- `s.link_ok` (R37). -/
  linkOk    : Bool
  /-- The transmit stream: the bytes emitted so far, first byte first (R50 item 2). The model's own record. -/
  txStream  : List Byte
  /-- The bytes host reads have returned, first read first (R140). The model's own record. -/
  hostReads : List Byte
  /-- The steps the agents have offered and that were not taken yet, in the total order of R59. The model's own. -/
  pending   : List RawStep
  /-- How many free draws of `Config.agentStep` have been taken. The model's own. -/
  draws     : Nat
deriving DecidableEq, Repr

/-- R220: every register and internal variable is 0, the assembly buffer is empty. The four fields of the model's own
start empty (log entries 1 and 7, DESIGN CHOICE). -/
def State.reset : State where
  ctrl      := 0x00#8
  flags     := 0x00#8
  cmdres    := 0x00#8
  regTxCat  := 0x00#8
  regTxFn   := 0x00#8
  regTxLen  := 0x00#8
  regTxData := Vector.replicate 15 0x00#8
  resKind   := 0x00#8
  rxB0      := 0x00#8
  rxFn      := 0x00#8
  rxChk     := 0x00#8
  rxCnt     := 0x00#8
  rxData    := Vector.replicate 15 0x00#8
  txBusy    := false
  txBuf     := Vector.replicate 18 0x00#8
  txLen     := 0#5
  txIdx     := 0#5
  rxArmed   := false
  rxBuf     := []
  scan      := false
  timer     := 0
  linkOk    := false
  txStream  := []
  hostReads := []
  pending   := []
  draws     := 0

end Sys2Proof.Machine
end

