-- ==== Sys2Proof/Machine/Flags.lean ====
section
/-! DEFINITION. The fields of `CTRL`, the sticky flags, the computed `STATUS` and the outputs (spec R23 to R25, R38,
R204). -/

namespace Sys2Proof.Machine

open Sys2Proof

/-! ## CTRL (R23) -/

/-- `CTRL.RESYNC`: 0 is DROP_ONE, 1 is DROP_ALL. -/
def dropAll (s : State) : Bool := s.ctrl.getLsbD 0

/-- `CTRL.IRQ_EN`. -/
def irqEnable (s : State) : Bool := s.ctrl.getLsbD 1

/-! ## FLAGS (R25) -/

/-- The six sticky flags. -/
inductive Flag where
  | inv
  | stray
  | ovr
  | rej
  | operr
  | badcmd
deriving DecidableEq, Repr

/-- The bit of `FLAGS` a flag stands in. -/
def flagMask : Flag → Byte
  | .inv    => 0x01#8
  | .stray  => 0x02#8
  | .ovr    => 0x04#8
  | .rej    => 0x08#8
  | .operr  => 0x10#8
  | .badcmd => 0x20#8

/-- R25: `set_flag(F)` on the register's value; "setting a flag already 1 leaves it 1". -/
def withFlag (f : Flag) (flags : Byte) : Byte := flags ||| flagMask f

/-- R143: `R[FLAGS] & ~(d & 0x3F)`. -/
def clearedFlags (d flags : Byte) : Byte := flags &&& ~~~(d &&& 0x3F#8)

/-! ## Outputs (R38) -/

/-- R24: a terminal result waits for ACK. -/
def resultPending (s : State) : Bool := s.resKind != 0x00#8

/-- R204: `irq = R[CTRL].IRQ_EN and (R[RES_KIND] != 0)`, a level. -/
def irq (s : State) : Bool := irqEnable s && resultPending s

/-- R38: a byte waits on the transmit port. -/
def txValid (s : State) : Bool := s.txBusy

/-- R38: `tx_byte = s.tx_buf[s.tx_idx]`; past index 17 a free value (log entry 6). -/
def txByte (s : State) : Byte :=
  if h : s.txIdx.toNat < 18 then s.txBuf[s.txIdx.toNat] else Config.txBufBeyond s.txIdx.toNat

/-- R38: `rx_ready = not s.scan`. -/
def rxReady (s : State) : Bool := !s.scan

/-! ## STATUS (R24) -/

/-- `STATUS`, computed from state: bits [7:6] reserved, then IRQ, RES_PEND, LINK_OK, SCAN, RX_ARMED, TX_BUSY. -/
def status (s : State) : Byte :=
  0#2 ++ BitVec.ofBool (irq s) ++ BitVec.ofBool (resultPending s) ++ BitVec.ofBool s.linkOk
    ++ BitVec.ofBool s.scan ++ BitVec.ofBool s.rxArmed ++ BitVec.ofBool s.txBusy

end Sys2Proof.Machine
end

