-- ==== Sys2Proof/Machine/Operands.lean ====
section
/-! DEFINITION. What an address of the host register space reads as (spec R51, R140), and the operands SEND takes from
the staging registers (spec R29, R147). -/

namespace Sys2Proof.Machine

open Sys2Proof

/-- R33: `RX_BUFLEN = zext_8(len(s.rx_buf))`. -/
def rxBufLen (s : State) : Byte := BitVec.ofNat 8 s.rxBuf.length

/-- R140: `MemRead(a, 1)`. A reserved address, a reserved bit and `CMD` read 0 (R26, R52). -/
def memRead (s : State) (a : HostAddr) : Byte :=
  if a = 0x00#6 then s.ctrl &&& 0x03#8
  else if a = 0x01#6 then status s
  else if a = 0x02#6 then s.flags &&& 0x3F#8
  else if a = 0x03#6 then 0x00#8
  else if a = 0x04#6 then s.cmdres &&& 0x03#8
  else if a = 0x05#6 then s.regTxCat
  else if a = 0x06#6 then s.regTxFn
  else if a = 0x07#6 then s.regTxLen
  else if a = 0x08#6 then s.resKind &&& 0x03#8
  else if a = 0x09#6 then s.rxB0
  else if a = 0x0A#6 then s.rxFn
  else if a = 0x0B#6 then s.rxChk
  else if a = 0x0C#6 then s.rxCnt
  else if a = 0x0D#6 then rxBufLen s
  else if h : 0x10 ≤ a.toNat ∧ a.toNat ≤ 0x1E then s.regTxData[a.toNat - 0x10]
  else if h : 0x20 ≤ a.toNat ∧ a.toNat ≤ 0x2E then s.rxData[a.toNat - 0x20]
  else 0x00#8

/-- R147: `[R[TX_DATA[0]], ..., R[TX_DATA[n-1]]]` with `n = R[TX_LEN]`. -/
def stagedOperands (s : State) : List Byte := s.regTxData.toList.take s.regTxLen.toNat

end Sys2Proof.Machine
end

