-- ==== Sys2Proof/Machine/Ops.lean ====
section
/-! DEFINITION. The shared operations over the state: reporting, the transmit side, the terminal result and its
acknowledgement (the block's counterpart of taking an exception and returning from it, spec R205, R207), evaluation and
the timer. -/

namespace Sys2Proof.Machine

open Sys2Proof

/-! ## Reporting (R10) -/

/-- R201: the codes of `CMDRES`. -/
inductive CmdCode where
  | ok
  | invalidOperand
  | busy
  | badCmd
deriving DecidableEq, Repr

/-- R201: the number a code is written as. -/
def cmdCode : CmdCode → Byte
  | .ok             => 0x00#8
  | .invalidOperand => 0x01#8
  | .busy           => 0x02#8
  | .badCmd         => 0x03#8

/-- R10: `report_cmd(code)` writes `R[CMDRES] <- code`. -/
def reportCmd (c : CmdCode) (s : State) : State := { s with cmdres := cmdCode c }

/-- R10: `set_flag(F)` writes `R[FLAGS].F <- 1`. -/
def setFlag (f : Flag) (s : State) : State := { s with flags := withFlag f s.flags }

/-- R78: a read returns one byte to the host. -/
def returnToHost (b : Byte) (s : State) : State := { s with hostReads := s.hostReads ++ [b] }

/-- R147, R148: an exchange is in progress, `s.tx_busy = 1 or s.rx_armed = 1`. -/
def exchangeOpen (s : State) : Bool := s.txBusy || s.rxArmed

/-! ## Transmit side -/

/-- R147: latch the frame `f` and start transmission; the buffer's bytes past the frame are unchanged. -/
def latchFrame (f : List Byte) (s : State) : State :=
  { s with
    txBuf  := Vector.ofFn fun i => (f[i.val]?).getD s.txBuf[i.val]
    txLen  := BitVec.ofNat 5 f.length
    txIdx  := 0#5
    txBusy := true }

/-- R148, R173: the latched frame is no longer being sent. -/
def stopTransmit (s : State) : State := { s with txBusy := false, txIdx := 0#5 }

/-- R10: `emit_tx(b)` puts byte `b` on the transmit byte port. -/
def emitTx (b : Byte) (s : State) : State := { s with txStream := s.txStream ++ [b] }

/-- R172: the receiver is armed. -/
def arm (s : State) : State := { s with rxArmed := true, timer := 0, rxBuf := [], scan := false }

/-- R173: after a byte has left, either the frame is done and the receiver armed, or the next byte is due. -/
def advanceTx (s : State) : State :=
  if s.txIdx.toNat + 1 = s.txLen.toNat then arm (stopTransmit s) else { s with txIdx := s.txIdx + 1#5 }

/-! ## Terminal results (R171) and their acknowledgement (R149) -/

/-- R171: the kinds of terminal result; a frame comes with DECODED only. -/
inductive Terminal where
  | decoded (fr : Frame)
  | timeout
  | cancelled
deriving DecidableEq, Repr

/-- R202: the number a kind is written as in `RES_KIND`. -/
def resultCode : Terminal → Byte
  | .decoded _ => 0x01#8
  | .timeout   => 0x02#8
  | .cancelled => 0x03#8

/-- R171: what `RX_B0` becomes. -/
def resultB0 : Terminal → Byte
  | .decoded fr => fr.b0
  | .timeout    => 0x00#8
  | .cancelled  => 0x00#8

/-- R171: what `RX_FN` becomes. -/
def resultFn : Terminal → Byte
  | .decoded fr => fr.function
  | .timeout    => 0x00#8
  | .cancelled  => 0x00#8

/-- R171: what `RX_CHK` becomes. -/
def resultChk : Terminal → Byte
  | .decoded fr => fr.checksum
  | .timeout    => 0x00#8
  | .cancelled  => 0x00#8

/-- R171: what `RX_CNT` becomes, `3 + fr.n` for a frame. -/
def resultCnt : Terminal → Byte
  | .decoded fr => BitVec.ofNat 8 (3 + fr.n.toNat)
  | .timeout    => 0x00#8
  | .cancelled  => 0x00#8

/-- R171: what `RX_DATA` becomes: the operands, and 0x00 from index `fr.n` on. -/
def resultData : Terminal → Vector Byte 15
  | .decoded fr => Vector.ofFn fun i => if i.val < fr.n.toNat then fr.data.getD i.val 0x00#8 else 0x00#8
  | .timeout    => Vector.replicate 15 0x00#8
  | .cancelled  => Vector.replicate 15 0x00#8

/-- R37: link health after the result: 1 on DECODED, 0 on TIMEOUT, unchanged on CANCELLED. -/
def resultLink : Terminal → Bool → Bool
  | .decoded _, _  => true
  | .timeout, _    => false
  | .cancelled, ok => ok

/-- R171: the flags after the result; `OVR` where an unacknowledged result is overwritten. -/
def overrunFlags (s : State) : Byte := if s.resKind = 0x00#8 then s.flags else withFlag .ovr s.flags

/-- R171: `finish(kind, fr)`, the terminal result of an attempt, all in one step. -/
def finish (k : Terminal) (s : State) : State :=
  { s with
    flags   := overrunFlags s
    resKind := resultCode k
    rxB0    := resultB0 k
    rxFn    := resultFn k
    rxChk   := resultChk k
    rxCnt   := resultCnt k
    rxData  := resultData k
    linkOk  := resultLink k s.linkOk
    rxArmed := false
    rxBuf   := []
    scan    := false
    timer   := 0 }

/-- R149, R207: the pending result is retired and its registers read 0. -/
def retireResult (s : State) : State :=
  { s with
    resKind := 0x00#8
    rxB0    := 0x00#8
    rxFn    := 0x00#8
    rxChk   := 0x00#8
    rxCnt   := 0x00#8
    rxData  := Vector.replicate 15 0x00#8 }

/-! ## Frame assembly -/

/-- R170, the `Invalid` case: resynchronise by dropping one byte, or all of them, as `CTRL.RESYNC` says. -/
def resynchronise (s : State) : State :=
  if dropAll s then { s with rxBuf := [], scan := false }
  else { s with rxBuf := s.rxBuf.tail, scan := !s.rxBuf.tail.isEmpty }

/-- R170: bytes of the buffer after a decoded frame are discarded and set `STRAY`. -/
def noteResidual (k : Nat) (s : State) : State := if s.rxBuf.length > k then setFlag .stray s else s

/-- R170: EVAL, one evaluation of the assembly buffer. -/
def evalBuffer (s : State) : State :=
  match tryDecode s.rxBuf with
  | .incomplete => { s with scan := false }
  | .decoded fr k => finish (.decoded fr) (noteResidual k s)
  | .invalid => resynchronise (setFlag .inv s)

/-- R174: a byte is taken: stray while no attempt is open, else assembled and evaluated. -/
def receiveByte (b : Byte) (s : State) : State :=
  if s.rxArmed then evalBuffer { s with rxBuf := s.rxBuf ++ [b] } else setFlag .stray s

/-- R176: one period of the time base, for a budget of `tResp` TICK steps and a timer of `tw` bits (R6: "The model
takes each OPEN parameter as an argument"). -/
def tickTimer (tResp tw : Nat) (s : State) : State :=
  if s.rxArmed then
    if s.timer + 1 = tResp then finish .timeout s else { s with timer := (s.timer + 1) % 2 ^ tw }
  else s

/-- R220: every piece of the block's state at its reset value. What has left on the transmit port stays emitted, what
a source still holds is delivered after; the host's reads and the count of draws are the environment's (log entry
8). -/
def resetBlock (s : State) : State :=
  { State.reset with
    txStream := s.txStream, hostReads := s.hostReads, pending := s.pending, draws := s.draws }

end Sys2Proof.Machine
end

