-- ==== Sys2Proof/Machine/HostOps.lean ====
section
/-! DEFINITION. The meanings of the host operations (spec 42_host_ops.md): "every host operation is enabled in every
state". -/

namespace Sys2Proof.Machine

open Sys2Proof

/-- R140. -/
def execRd (a : HostAddr) (s : State) : Host.Outcome State Fault Refusal :=
  .next (returnToHost (memRead s a) s)

/-- R142: `R[CTRL] <- d & 0x03`. -/
def execWrCtrl (d : Byte) (s : State) : Host.Outcome State Fault Refusal :=
  .next { s with ctrl := d &&& 0x03#8 }

/-- R143. -/
def execWrFlags (d : Byte) (s : State) : Host.Outcome State Fault Refusal :=
  .next { s with flags := clearedFlags d s.flags }

/-- R147: BUSY is checked before INVALID_OPERAND (R206). -/
def execSend (s : State) : Host.Outcome State Fault Refusal :=
  if exchangeOpen s then .next (setFlag .rej (reportCmd .busy s))
  else if s.regTxLen.toNat > Config.maxOperands then .next (setFlag .operr (reportCmd .invalidOperand s))
  else match encodeFrame s.regTxCat s.regTxFn (stagedOperands s) with
    | .ok f => .next (reportCmd .ok (latchFrame f s))
    | .error .invalidOperand => .next (setFlag .operr (reportCmd .invalidOperand s))

/-- R148: without an exchange in progress only `CMDRES` changes. -/
def execAbort (s : State) : Host.Outcome State Fault Refusal :=
  .next (reportCmd .ok (if exchangeOpen s then finish .cancelled (stopTransmit s) else s))

/-- R149. -/
def execAck (s : State) : Host.Outcome State Fault Refusal :=
  .next (reportCmd .ok (retireResult s))

/-- R150: every reserved value has the same effect. -/
def execCmdRsvd (_d : Byte) (s : State) : Host.Outcome State Fault Refusal :=
  .next (setFlag .badcmd (reportCmd .badCmd s))

/-- R144: all 8 bits are stored. -/
def execWrTxCat (d : Byte) (s : State) : Host.Outcome State Fault Refusal :=
  .next { s with regTxCat := d }

/-- R144. -/
def execWrTxFn (d : Byte) (s : State) : Host.Outcome State Fault Refusal :=
  .next { s with regTxFn := d }

/-- R144: a value above 15 is stored too; only SEND refuses it. -/
def execWrTxLen (d : Byte) (s : State) : Host.Outcome State Fault Refusal :=
  .next { s with regTxLen := d }

/-- R145: `R[TX_DATA[i]] <- d`; there is no `TX_DATA[15]`, and no step decodes to a write of it. -/
def execWrTxData (i : BitVec 4) (d : Byte) (s : State) : Host.Outcome State Fault Refusal :=
  .next { s with regTxData := s.regTxData.setIfInBounds i.toNat d }

/-- R146: `STATUS` is read-only. -/
def execWrIgnoredStatus (_d : Byte) (s : State) : Host.Outcome State Fault Refusal := .next s

/-- R146: `CMDRES` is read-only. -/
def execWrIgnoredCmdres (_d : Byte) (s : State) : Host.Outcome State Fault Refusal := .next s

/-- R146: 0x08 to 0x0F are read-only or reserved. -/
def execWrIgnoredResult (_a : BitVec 3) (_d : Byte) (s : State) : Host.Outcome State Fault Refusal := .next s

/-- R146: 0x1F is reserved. -/
def execWrIgnoredGap (_d : Byte) (s : State) : Host.Outcome State Fault Refusal := .next s

/-- R146: 0x20 to 0x3F are read-only or reserved. -/
def execWrIgnoredUpper (_a : BitVec 5) (_d : Byte) (s : State) : Host.Outcome State Fault Refusal := .next s

end Sys2Proof.Machine
end

