-- ==== Sys2Proof/Machine/StreamOps.lean ====
section
/-! DEFINITION. The meanings of the stream and internal steps and of RESET (spec 43_stream_ops.md, 70_reset_and_hazards.md). -/

namespace Sys2Proof.Machine

open Sys2Proof

/-- R173, enabled when `s.tx_busy = 1`. -/
def execTxPop (s : State) : Host.Outcome State Fault Refusal :=
  if s.txBusy then .next (advanceTx (emitTx (txByte s) s)) else .refused .notEnabled

/-- R174, enabled when `s.scan = 0`. -/
def execRxByte (b : Byte) (s : State) : Host.Outcome State Fault Refusal :=
  if rxReady s then .next (receiveByte b s) else .refused .notEnabled

/-- R175, enabled when `s.scan = 1`. -/
def execScan (s : State) : Host.Outcome State Fault Refusal :=
  if s.scan then .next (evalBuffer s) else .refused .notEnabled

/-- R176, always enabled. -/
def execTick (s : State) : Host.Outcome State Fault Refusal :=
  .next (tickTimer Config.tResp Config.tw s)

/-- R220, always enabled. -/
def execReset (s : State) : Host.Outcome State Fault Refusal := .next (resetBlock s)

end Sys2Proof.Machine
end

