-- ==== Sys2Proof/Machine/Dispatch.lean ====
section
/-! DEFINITION. One arm per instruction, each one call of its meaning. -/

namespace Sys2Proof.Machine

open Sys2Proof

def exec (i : Instr) (s : State) : Host.Outcome State Fault Refusal :=
  match i with
  | .rd a => Sys2Proof.Machine.execRd a s
  | .wrCtrl d => Sys2Proof.Machine.execWrCtrl d s
  | .wrFlags d => Sys2Proof.Machine.execWrFlags d s
  | .send => Sys2Proof.Machine.execSend s
  | .abort => Sys2Proof.Machine.execAbort s
  | .ack => Sys2Proof.Machine.execAck s
  | .cmdRsvd d => Sys2Proof.Machine.execCmdRsvd d s
  | .wrTxCat d => Sys2Proof.Machine.execWrTxCat d s
  | .wrTxFn d => Sys2Proof.Machine.execWrTxFn d s
  | .wrTxLen d => Sys2Proof.Machine.execWrTxLen d s
  | .wrTxData k d => Sys2Proof.Machine.execWrTxData k d s
  | .wrIgnoredStatus d => Sys2Proof.Machine.execWrIgnoredStatus d s
  | .wrIgnoredCmdres d => Sys2Proof.Machine.execWrIgnoredCmdres d s
  | .wrIgnoredResult a d => Sys2Proof.Machine.execWrIgnoredResult a d s
  | .wrIgnoredGap d => Sys2Proof.Machine.execWrIgnoredGap d s
  | .wrIgnoredUpper a d => Sys2Proof.Machine.execWrIgnoredUpper a d s
  | .txPop => Sys2Proof.Machine.execTxPop s
  | .rxByte b => Sys2Proof.Machine.execRxByte b s
  | .scan => Sys2Proof.Machine.execScan s
  | .tick => Sys2Proof.Machine.execTick s
  | .reset => Sys2Proof.Machine.execReset s

end Sys2Proof.Machine
end

