-- ==== Sys2Proof/WellFormed.lean ====
section
/-! DEFINITION. The operands an encoding admits (spec R80): the two rows of the opcode table that exclude values. -/

namespace Sys2Proof

/-- R80: `CMD_RSVD` has "`d` not in {1, 2, 3}" and `WR_TX_DATA` has "`iiii != 1111`"; every other row admits every
value of its fields. -/
def Instr.wf : Instr → Bool
  | .rd _ => true
  | .wrCtrl _ => true
  | .wrFlags _ => true
  | .send => true
  | .abort => true
  | .ack => true
  | .cmdRsvd d => d != 0x01#8 && d != 0x02#8 && d != 0x03#8
  | .wrTxCat _ => true
  | .wrTxFn _ => true
  | .wrTxLen _ => true
  | .wrTxData i _ => i != 15#4
  | .wrIgnoredStatus _ => true
  | .wrIgnoredCmdres _ => true
  | .wrIgnoredResult _ _ => true
  | .wrIgnoredGap _ => true
  | .wrIgnoredUpper _ _ => true
  | .txPop => true
  | .rxByte _ => true
  | .scan => true
  | .tick => true
  | .reset => true

/-- The instruction is one that some step decodes to. -/
abbrev Instr.WellFormed (i : Instr) : Prop := i.wf = true

end Sys2Proof
end

