-- ==== Sys2Proof/Decode.lean ====
section
/-! DEFINITION. Decoding of the steps the agents offer (spec R78 to R81), total, and the encoder beside it. -/

namespace Sys2Proof

/-! ## Fields of a host transaction word (R78) -/

/-- R78: bit 14, 1 for a write. -/
def fieldW (w : HostWord) : Bool := w.getLsbD 14

/-- R78: bits 13 to 8, the host address. -/
def fieldA (w : HostWord) : HostAddr := w.extractLsb' 8 6

/-- R78: bits 7 to 0, the write data. -/
def fieldD (w : HostWord) : Byte := w.extractLsb' 0 8

/-! ## The opcode map (R80) -/

/-- R26, R80: what a value written to `CMD` means; every value but 1, 2 and 3 is reserved. -/
def decodeCommand (d : Byte) : Instr :=
  if d = 0x01#8 then .send
  else if d = 0x02#8 then .abort
  else if d = 0x03#8 then .ack
  else .cmdRsvd d

/-- R80, the rows with W = 1, by address. -/
def decodeWrite (a : HostAddr) (d : Byte) : Instr :=
  if a = 0x00#6 then .wrCtrl d
  else if a = 0x01#6 then .wrIgnoredStatus d
  else if a = 0x02#6 then .wrFlags d
  else if a = 0x03#6 then decodeCommand d
  else if a = 0x04#6 then .wrIgnoredCmdres d
  else if a = 0x05#6 then .wrTxCat d
  else if a = 0x06#6 then .wrTxFn d
  else if a = 0x07#6 then .wrTxLen d
  else if a.extractLsb' 3 3 = 0b001#3 then .wrIgnoredResult (a.extractLsb' 0 3) d
  else if a = 0x1F#6 then .wrIgnoredGap d
  else if a.extractLsb' 4 2 = 0b01#2 then .wrTxData (a.extractLsb' 0 4) d
  else .wrIgnoredUpper (a.extractLsb' 0 5) d

/-- R80: "every 15-bit word decodes to exactly one row". -/
def decodeHost (w : HostWord) : Instr :=
  if fieldW w then decodeWrite (fieldA w) (fieldD w) else .rd (fieldA w)

/-- The instruction an offered step stands for. No step is rejected: "No host word is illegal and none traps" (R81),
and each other step kind is one row (R79). -/
def decode : RawStep → Instr
  | .host w => decodeHost w
  | .txPort => .txPop
  | .rxPort b => .rxByte b
  | .internal => .scan
  | .timeBase => .tick
  | .reset => .reset

/-! ## The encoder (R78, R80) -/

/-- R78: "a read of `a` is `a << 8`". -/
def hostReadWord (a : HostAddr) : HostWord := 0#1 ++ a ++ 0x00#8

/-- R78: "a write of `v` to address `a` is `0x4000 | (a << 8) | v`". -/
def hostWriteWord (a : HostAddr) (v : Byte) : HostWord := 1#1 ++ a ++ v

/-- The step an instruction is offered as, by its row of R80 or its step kind of R79. -/
def encode : Instr → RawStep
  | .rd a => .host (hostReadWord a)
  | .wrCtrl d => .host (hostWriteWord 0x00#6 d)
  | .wrFlags d => .host (hostWriteWord 0x02#6 d)
  | .send => .host (hostWriteWord 0x03#6 0x01#8)
  | .abort => .host (hostWriteWord 0x03#6 0x02#8)
  | .ack => .host (hostWriteWord 0x03#6 0x03#8)
  | .cmdRsvd d => .host (hostWriteWord 0x03#6 d)
  | .wrTxCat d => .host (hostWriteWord 0x05#6 d)
  | .wrTxFn d => .host (hostWriteWord 0x06#6 d)
  | .wrTxLen d => .host (hostWriteWord 0x07#6 d)
  | .wrTxData i d => .host (hostWriteWord (0b01#2 ++ i) d)
  | .wrIgnoredStatus d => .host (hostWriteWord 0x01#6 d)
  | .wrIgnoredCmdres d => .host (hostWriteWord 0x04#6 d)
  | .wrIgnoredResult a d => .host (hostWriteWord (0b001#3 ++ a) d)
  | .wrIgnoredGap d => .host (hostWriteWord 0x1F#6 d)
  | .wrIgnoredUpper a d => .host (hostWriteWord (1#1 ++ a) d)
  | .txPop => .txPort
  | .rxByte b => .rxPort b
  | .scan => .internal
  | .tick => .timeBase
  | .reset => .reset

/-! ## The opcode table as data -/

/-- The format of an offered step (R79); a host word's is told by its bit W. -/
def RawStep.format : RawStep → Format
  | .host w => if fieldW w then .hostWrite else .hostRead
  | .txPort => .txPort
  | .rxPort _ => .rxPort
  | .internal => .internal
  | .timeBase => .timeBase
  | .reset => .reset

/-- The format column of the opcode table. -/
def Instr.format : Instr → Format
  | .rd _ => .hostRead
  | .wrCtrl _ => .hostWrite
  | .wrFlags _ => .hostWrite
  | .send => .hostWrite
  | .abort => .hostWrite
  | .ack => .hostWrite
  | .cmdRsvd _ => .hostWrite
  | .wrTxCat _ => .hostWrite
  | .wrTxFn _ => .hostWrite
  | .wrTxLen _ => .hostWrite
  | .wrTxData _ _ => .hostWrite
  | .wrIgnoredStatus _ => .hostWrite
  | .wrIgnoredCmdres _ => .hostWrite
  | .wrIgnoredResult _ _ => .hostWrite
  | .wrIgnoredGap _ => .hostWrite
  | .wrIgnoredUpper _ _ => .hostWrite
  | .txPop => .txPort
  | .rxByte _ => .rxPort
  | .scan => .internal
  | .tick => .timeBase
  | .reset => .reset

/-- The mnemonic column of the opcode table. -/
def Instr.mnemonic : Instr → String
  | .rd _ => "RD"
  | .wrCtrl _ => "WR_CTRL"
  | .wrFlags _ => "WR_FLAGS"
  | .send => "SEND"
  | .abort => "ABORT"
  | .ack => "ACK"
  | .cmdRsvd _ => "CMD_RSVD"
  | .wrTxCat _ => "WR_TX_CAT"
  | .wrTxFn _ => "WR_TX_FN"
  | .wrTxLen _ => "WR_TX_LEN"
  | .wrTxData _ _ => "WR_TX_DATA"
  | .wrIgnoredStatus _ => "WR_IGNORED"
  | .wrIgnoredCmdres _ => "WR_IGNORED"
  | .wrIgnoredResult _ _ => "WR_IGNORED"
  | .wrIgnoredGap _ => "WR_IGNORED"
  | .wrIgnoredUpper _ _ => "WR_IGNORED"
  | .txPop => "TX_POP"
  | .rxByte _ => "RX_BYTE"
  | .scan => "SCAN"
  | .tick => "TICK"
  | .reset => "RESET"

/-- One host row of the opcode table (R79): `match` and `mask`, and the words of its `excludes` list as match and
mask pairs, which belong to another row. -/
structure OpcodeRow where
  mnemonic : String
  bits     : HostWord
  mask     : HostWord
  excludes : List (HostWord × HostWord)
deriving DecidableEq, Repr

/-- A word is the row's: it agrees with `bits` under `mask` and with no excluded pair. -/
def OpcodeRow.covers (r : OpcodeRow) (w : HostWord) : Bool :=
  decide (w &&& r.mask = r.bits) && r.excludes.all fun e => decide (w &&& e.2 ≠ e.1)

/-- The sixteen host rows of the opcode table, in its order. -/
def opcodeRows : List OpcodeRow :=
  [ { mnemonic := "RD",         bits := 0x0000#15, mask := 0x4000#15, excludes := [] },
    { mnemonic := "WR_CTRL",    bits := 0x4000#15, mask := 0x7F00#15, excludes := [] },
    { mnemonic := "WR_FLAGS",   bits := 0x4200#15, mask := 0x7F00#15, excludes := [] },
    { mnemonic := "SEND",       bits := 0x4301#15, mask := 0x7FFF#15, excludes := [] },
    { mnemonic := "ABORT",      bits := 0x4302#15, mask := 0x7FFF#15, excludes := [] },
    { mnemonic := "ACK",        bits := 0x4303#15, mask := 0x7FFF#15, excludes := [] },
    { mnemonic := "CMD_RSVD",   bits := 0x4300#15, mask := 0x7F00#15,
      excludes := [(0x4301#15, 0x7FFF#15), (0x4302#15, 0x7FFF#15), (0x4303#15, 0x7FFF#15)] },
    { mnemonic := "WR_TX_CAT",  bits := 0x4500#15, mask := 0x7F00#15, excludes := [] },
    { mnemonic := "WR_TX_FN",   bits := 0x4600#15, mask := 0x7F00#15, excludes := [] },
    { mnemonic := "WR_TX_LEN",  bits := 0x4700#15, mask := 0x7F00#15, excludes := [] },
    { mnemonic := "WR_TX_DATA", bits := 0x5000#15, mask := 0x7000#15,
      excludes := [(0x5F00#15, 0x7F00#15)] },
    { mnemonic := "WR_IGNORED", bits := 0x4100#15, mask := 0x7F00#15, excludes := [] },
    { mnemonic := "WR_IGNORED", bits := 0x4400#15, mask := 0x7F00#15, excludes := [] },
    { mnemonic := "WR_IGNORED", bits := 0x4800#15, mask := 0x7800#15, excludes := [] },
    { mnemonic := "WR_IGNORED", bits := 0x5F00#15, mask := 0x7F00#15, excludes := [] },
    { mnemonic := "WR_IGNORED", bits := 0x6000#15, mask := 0x6000#15, excludes := [] } ]

/-! ## Words as the opcode table numbers them -/

/-- Why bits given as a number are no step of the block. -/
inductive DecodeError where
  /-- The number has bits above bit 14: a host access is one 15-bit word (R78). Safe: no step is made of it. -/
  | notATransactionWord
  /-- The number has bits above bit 7: RX_BYTE carries one 8-bit field (R79). Safe: no step is made of it. -/
  | notAByte
  /-- The step kind has no bits that could tell it from the others (TX_POP, SCAN, TICK, RESET: R79), or no step is
  that wide. Safe: no step is made of it. -/
  | noSuchWidth
deriving DecidableEq, Repr

/-- The step whose bits are `w`, as the opcode table numbers them: the rows of 15 bits (two whole bytes) are host
words, the row of 8 bits is RX_BYTE. The four rows without bits cannot be named by a number. -/
def RawStep.ofTableWord (nbits w : Nat) : Except DecodeError RawStep :=
  if nbits = 15 ∨ nbits = 16 then
    if w < 2 ^ 15 then .ok (.host (BitVec.ofNat 15 w)) else .error .notATransactionWord
  else if nbits = 8 then
    if w < 2 ^ 8 then .ok (.rxPort (BitVec.ofNat 8 w)) else .error .notAByte
  else .error .noSuchWidth

/-- The instruction the decoder reads from the table's bits `w`. -/
def decodeTableWord (nbits w : Nat) : Option Instr :=
  match RawStep.ofTableWord nbits w with
  | .ok r => some (decode r)
  | .error _ => none

end Sys2Proof
end

