-- ==== Sys2Proof/Machine/Enabling.lean ====
section
/-! DEFINITION. Which steps may be taken next (spec R177) and how the order of the agents' steps is held: the list of
offers, the free draw, and what becomes of an offer that is not enabled. -/

namespace Sys2Proof.Machine

open Sys2Proof

/-- R177, the table of enabling conditions. -/
def enabled : Instr → State → Bool
  | .rd _, _ => true
  | .wrCtrl _, _ => true
  | .wrFlags _, _ => true
  | .send, _ => true
  | .abort, _ => true
  | .ack, _ => true
  | .cmdRsvd _, _ => true
  | .wrTxCat _, _ => true
  | .wrTxFn _, _ => true
  | .wrTxLen _, _ => true
  | .wrTxData _ _, _ => true
  | .wrIgnoredStatus _, _ => true
  | .wrIgnoredCmdres _, _ => true
  | .wrIgnoredResult _ _, _ => true
  | .wrIgnoredGap _, _ => true
  | .wrIgnoredUpper _ _, _ => true
  | .txPop, s => txValid s
  | .rxByte _, s => rxReady s
  | .scan, s => s.scan
  | .tick, _ => true
  | .reset, _ => true

/-- The next step some agent offers, and the state without that offer: the first of the listed ones, or, where none is
listed, a free draw (R177: "Which enabled step comes next is not fixed"; log entry 1). -/
def nextOffer (s : State) : RawStep × State :=
  match s.pending with
  | r :: rest => (r, { s with pending := rest })
  | [] => (Config.agentStep s.draws, { s with draws := s.draws + 1 })

/-- The offer is put back: its agent holds it (R174: "the source holds the byte; it is not lost"). -/
def holdOffer (r : RawStep) (s : State) : State := { s with pending := r :: s.pending }

/-- The instruction an offer `r` makes the block take in state `s`, if any, and the state it is taken in. An enabled
offer is taken. A byte that `s.scan` holds off stays with its source while the scanner moves, as the listings of R83
insert SCAN before it. A take with nothing in transmission, or a scan with nothing to scan, does not happen (log entry
2). -/
def resolveOffer (r : RawStep) (s : State) : Option Instr × State :=
  if enabled (decode r) s then (some (decode r), s)
  else match r with
    | .rxPort _ => (some .scan, holdOffer r s)
    | .host _ => (none, s)
    | .txPort => (none, s)
    | .internal => (none, s)
    | .timeBase => (none, s)
    | .reset => (none, s)

/-- One offer is drawn and resolved. -/
def scheduled (s : State) : Option Instr × State :=
  resolveOffer (nextOffer s).1 (nextOffer s).2

/-- The step with table bits `w` is put before all other offers, so that it is the next one taken. -/
def offerFirst (nbits w : Nat) (s : State) : State :=
  match RawStep.ofTableWord nbits w with
  | .ok r => holdOffer r s
  | .error _ => s

end Sys2Proof.Machine
end

