-- ==== Sys2Proof/Machine/Step.lean ====
section
/-! DEFINITION. One step of the block: the next offered step, decoded and taken (spec R10, R59, R177). -/

namespace Sys2Proof.Machine

open Sys2Proof

/-- One step: draw an offer, resolve it, and run the instruction it stands for. Where the offer does not happen, only
the offer is gone. -/
def step (s : State) : Host.Outcome State Fault Refusal :=
  match scheduled s with
  | (some i, s') => exec i s'
  | (none, s') => .next s'

/-- The state in which the next step runs the instruction with table bits `w`: the agents offer it first. This stands
for the outside world, since the block holds no program (R22, R221). -/
def State.withFetchWord (s : State) (nbits w : Nat) : State := offerFirst nbits w s

end Sys2Proof.Machine
end

