-- ==== Sys2Proof/Machine/Listing.lean ====
section
/-! DEFINITION. The listing language of the spec (R82, R83): each line as the step it is offered as, and the expansions
of the pseudo-operations. It is no behaviour of the block (92_eei_decisions.md D32). -/

namespace Sys2Proof.Machine

open Sys2Proof

/-- R82: the lines of a listing. -/
inductive Line where
  | rd (a : HostAddr)
  | wr (a : HostAddr) (v : Byte)
  | send
  | abort
  | ack
  | rxb (b : Byte)
  | txp
  | scan
  | tick
  | reset
deriving DecidableEq, Repr

/-- R82: the word or step kind of a line; `SEND`, `ABORT` and `ACK` are `WR CMD` with 0x01, 0x02 and 0x03. -/
def lineStep : Line → RawStep
  | .rd a => .host (hostReadWord a)
  | .wr a v => .host (hostWriteWord a v)
  | .send => .host (hostWriteWord 0x03#6 0x01#8)
  | .abort => .host (hostWriteWord 0x03#6 0x02#8)
  | .ack => .host (hostWriteWord 0x03#6 0x03#8)
  | .rxb b => .rxPort b
  | .txp => .txPort
  | .scan => .internal
  | .tick => .timeBase
  | .reset => .reset

/-- R83: the lines `WR TX_DATA[j], dj` from index `j` on, in order. -/
def stageLines (j : Nat) : List Byte → List Line
  | [] => []
  | d :: ds => .wr (BitVec.ofNat 6 (0x10 + j)) d :: stageLines (j + 1) ds

/-- R83: `SENDF <cat>, <fn>, [d0, ..., dk-1]` for at most 15 operands. -/
def sendf (cat fn : Byte) (data : List Byte) : List Line :=
  [.wr 0x05#6 cat, .wr 0x06#6 fn, .wr 0x07#6 (BitVec.ofNat 8 data.length)] ++ stageLines 0 data ++ [.send]

/-- R83: `TXALL`, "exactly `s.tx_len - s.tx_idx` times" `TXP`, from a state with a frame in transmission. -/
def txall (s : State) : List Line := List.replicate (s.txLen.toNat - s.txIdx.toNat) .txp

/-- R83: `TICKS k`. -/
def ticks (k : Nat) : List Line := List.replicate k .tick

/-- R83: `CLRF <mask>`. -/
def clrf (mask : Byte) : List Line := [.wr 0x02#6 mask]

/-- R83: the SCAN lines needed until `STATUS.SCAN = 0`, at most `fuel` of them, and the state after them. -/
def scansUntilReady : Nat → State → List Line × State
  | 0, s => ([], s)
  | fuel + 1, s =>
    if s.scan then (.scan :: (scansUntilReady fuel (evalBuffer s)).1, (scansUntilReady fuel (evalBuffer s)).2)
    else ([], s)

/-- R83: `RXF b0, ..., bm` from state `s`, with SCAN inserted before each RXB and after the last "as many times as
needed"; a chain is never longer than the buffer (R175), so the buffer's length bounds it. -/
def rxf : List Byte → State → List Line
  | [], s => (scansUntilReady s.rxBuf.length s).1
  | b :: bs, s =>
    (scansUntilReady s.rxBuf.length s).1 ++ .rxb b :: rxf bs (receiveByte b (scansUntilReady s.rxBuf.length s).2)

end Sys2Proof.Machine
end

