-- ==== Sys2Proof/Safety.lean ====
section
/-! DEFINITION. What a safe run of the block is: the invariants of spec R39 and of the register rules, and runs of
several instructions, in the terms the statements use. -/

namespace Sys2Proof.Machine

open Sys2Proof

/-- The next state, where there is one. -/
def nextOf (o : Host.Outcome State Fault Refusal) : Option State :=
  match o with
  | .next t => some t
  | .fault _ => none
  | .refused _ => none

/-- R39, items 1 to 7, "Every reachable state satisfies". -/
structure AssemblyInv (s : State) : Prop where
  /-- Item 1. -/
  disarmed : s.rxArmed = false → s.rxBuf = [] ∧ s.scan = false ∧ s.timer = 0
  /-- Item 2. -/
  halfDuplex : s.txBusy = true → s.rxArmed = false
  /-- Item 3. -/
  scanning : s.scan = true → s.rxArmed = true ∧ s.rxBuf ≠ []
  /-- Item 4. -/
  waiting : s.rxArmed = true → s.scan = false → tryDecode s.rxBuf = .incomplete ∧ s.rxBuf.length ≤ 17
  /-- Item 5. -/
  bufferBound : s.rxBuf.length ≤ 18
  /-- Item 6, while a frame is in transmission. -/
  sending : s.txBusy = true → 3 ≤ s.txLen.toNat ∧ s.txLen.toNat ≤ 18 ∧ s.txIdx.toNat < s.txLen.toNat
  /-- Item 6, otherwise. -/
  notSending : s.txBusy = false → s.txIdx = 0#5
  /-- Item 7. -/
  timerBound : s.timer ≤ Config.tResp - 1

/-- R52, R23, R25, R27, R30: the reserved bits of the stored registers are 0. -/
structure ReservedBitsZero (s : State) : Prop where
  ctrl : s.ctrl &&& 0xFC#8 = 0x00#8
  flags : s.flags &&& 0xC0#8 = 0x00#8
  cmdres : s.cmdres &&& 0xFC#8 = 0x00#8
  resKind : s.resKind &&& 0xFC#8 = 0x00#8

/-- R31, R32, R202: after anything but a DECODED result the result registers are 0; after a DECODED one they hold a
frame whose checksum is right (R101), its length and its operands, 0 from index `n` on. -/
structure ResultInv (s : State) : Prop where
  cleared : s.resKind ≠ 0x01#8 →
    s.rxB0 = 0x00#8 ∧ s.rxFn = 0x00#8 ∧ s.rxChk = 0x00#8 ∧ s.rxCnt = 0x00#8 ∧ s.rxData = Vector.replicate 15 0x00#8
  length : s.resKind = 0x01#8 → s.rxCnt = BitVec.ofNat 8 (frameLength s.rxB0)
  zeroFill : s.resKind = 0x01#8 → ∀ i : Fin 15, (countOf s.rxB0).toNat ≤ i.val → s.rxData[i.val] = 0x00#8
  checksum : s.resKind = 0x01#8 →
    s.rxChk = sum8 ([s.rxB0, s.rxFn] ++ s.rxData.toList.take (countOf s.rxB0).toNat)

/-- The instructions of a list taken one after the other, up to the first that answers no next state. -/
def execAll : List Instr → State → Host.Outcome State Fault Refusal
  | [], s => .next s
  | i :: is, s =>
    match exec i s with
    | .next t => execAll is t
    | .fault r => .fault r
    | .refused r => .refused r

/-- The attempt stays open along a list of instructions: in every state before, between and after them. -/
def ArmedThroughout : List Instr → State → Prop
  | [], s => s.rxArmed = true
  | i :: is, s => s.rxArmed = true ∧ ∀ t, exec i s = .next t → ArmedThroughout is t

/-- The result registers hold still between two states (R223: `RES_KIND`, `RX_B0`, `RX_FN`, `RX_CHK`, `RX_CNT`,
`RX_DATA[0..14]`). -/
def ResultRegistersEqual (s t : State) : Prop :=
  t.resKind = s.resKind ∧ t.rxB0 = s.rxB0 ∧ t.rxFn = s.rxFn ∧ t.rxChk = s.rxChk ∧ t.rxCnt = s.rxCnt ∧
    t.rxData = s.rxData

/-- R170, R171: what one evaluation of the bytes `buf` turns the state `s` into, each outcome of the decoder with the
whole next state. -/
structure EvaluatesTo (buf : List Byte) (s t : State) : Prop where
  /-- `Incomplete`: wait for more bytes. -/
  incomplete : tryDecode buf = .incomplete → t = { s with rxBuf := buf, scan := false }
  /-- `Decoded`: the terminal result, `STRAY` for residual bytes, `OVR` where a result was still pending. -/
  decoded : ∀ fr k, tryDecode buf = .decoded fr k →
    (∀ i : Fin 15, t.rxData[i.val] = if i.val < fr.n.toNat then fr.data.getD i.val 0x00#8 else 0x00#8) ∧
    t = { s with
          flags := s.flags ||| (if k < buf.length then 0x02#8 else 0x00#8)
                           ||| (if s.resKind = 0x00#8 then 0x00#8 else 0x04#8)
          resKind := 0x01#8, rxB0 := fr.b0, rxFn := fr.function, rxChk := fr.checksum
          rxCnt := BitVec.ofNat 8 (3 + fr.n.toNat), rxData := t.rxData, linkOk := true
          rxArmed := false, rxBuf := [], scan := false, timer := 0 }
  /-- `Invalid` under DROP_ONE: the first byte is dropped, and the rest evaluated again before a byte is taken. -/
  invalidDropOne : tryDecode buf = .invalid → s.ctrl.getLsbD 0 = false →
    t = { s with flags := s.flags ||| 0x01#8, rxBuf := buf.tail, scan := decide (buf.tail ≠ []) }
  /-- `Invalid` under DROP_ALL: the buffer is dropped. -/
  invalidDropAll : tryDecode buf = .invalid → s.ctrl.getLsbD 0 = true →
    t = { s with flags := s.flags ||| 0x01#8, rxBuf := [], scan := false }

/-- R28, R29: the instruction is a host write to a staging register. -/
def writesStaging : Instr → Bool
  | .wrTxCat _ => true
  | .wrTxFn _ => true
  | .wrTxLen _ => true
  | .wrTxData _ _ => true
  | .rd _ => false
  | .wrCtrl _ => false
  | .wrFlags _ => false
  | .send => false
  | .abort => false
  | .ack => false
  | .cmdRsvd _ => false
  | .wrIgnoredStatus _ => false
  | .wrIgnoredCmdres _ => false
  | .wrIgnoredResult _ _ => false
  | .wrIgnoredGap _ => false
  | .wrIgnoredUpper _ _ => false
  | .txPop => false
  | .rxByte _ => false
  | .scan => false
  | .tick => false
  | .reset => false

/-- The instructions the lines of a listing stand for (R82). -/
def listed (ls : List Line) : List Instr := ls.map fun l => decode (lineStep l)

/-- R51, R52: the reserved addresses, 0x0E, 0x0F, 0x1F and 0x2F to 0x3F. -/
def reservedAddress (a : HostAddr) : Bool :=
  a.toNat == 0x0E || a.toNat == 0x0F || a.toNat == 0x1F || decide (0x2F ≤ a.toNat)

/-- R146: the addresses whose writes are ignored, 0x01, 0x04, 0x08 to 0x0F, 0x1F, 0x20 to 0x3F. -/
def ignoresWrites (a : HostAddr) : Bool :=
  a.toNat == 0x01 || a.toNat == 0x04 || decide (0x08 ≤ a.toNat ∧ a.toNat ≤ 0x0F) || a.toNat == 0x1F
    || decide (0x20 ≤ a.toNat)

end Sys2Proof.Machine
end

