-- ==== Sys2Proof/Certificates/Slice0/Obligations.lean ====
section
/-! DEFINITION. What the provers are asked to settle: the rules of the spec, each stated of the model. Stated here,
never proved here. -/

open Sys2Proof Sys2Proof.Machine

/-! ## Encodings of the steps -/

/-- R78: the fields of a transaction word, and the number a host access is written as. -/
def Obligations.HostWordFieldsStandWhereNumbered : Prop :=
  (∀ w : HostWord, fieldW w = w.getLsbD 14 ∧ (fieldA w).toNat = w.toNat / 2 ^ 8 % 2 ^ 6 ∧
    (fieldD w).toNat = w.toNat % 2 ^ 8) ∧
  (∀ (a : HostAddr) (v : Byte),
    (hostWriteWord a v).toNat = 0x4000 ||| (a.toNat <<< 8) ||| v.toNat ∧ (hostReadWord a).toNat = a.toNat <<< 8) ∧
  (∀ v w : HostWord, fieldW v = false → fieldW w = false → fieldA v = fieldA w →
    decode (.host v) = decode (.host w)) ∧
  (∀ (a : HostAddr) (s : State), exec (decode (.host (hostReadWord a))) s =
    .next { s with hostReads := s.hostReads ++ [memRead s a] })

/-- R80: the twelve word patterns and what they decode to, and that each word is one row's alone. -/
def Obligations.EveryHostWordHasExactlyOneRow : Prop :=
  (∀ w : HostWord, fieldW w = false → decode (.host w) = .rd (fieldA w)) ∧
  (∀ d : Byte,
    decode (.host (hostWriteWord 0x00#6 d)) = .wrCtrl d ∧ decode (.host (hostWriteWord 0x02#6 d)) = .wrFlags d ∧
    decode (.host (hostWriteWord 0x05#6 d)) = .wrTxCat d ∧ decode (.host (hostWriteWord 0x06#6 d)) = .wrTxFn d ∧
    decode (.host (hostWriteWord 0x07#6 d)) = .wrTxLen d) ∧
  (decode (.host (hostWriteWord 0x03#6 0x01#8)) = .send ∧ decode (.host (hostWriteWord 0x03#6 0x02#8)) = .abort ∧
    decode (.host (hostWriteWord 0x03#6 0x03#8)) = .ack) ∧
  (∀ d : Byte, d ≠ 0x01#8 → d ≠ 0x02#8 → d ≠ 0x03#8 → decode (.host (hostWriteWord 0x03#6 d)) = .cmdRsvd d) ∧
  (∀ (i : BitVec 4) (d : Byte), i ≠ 15#4 → decode (.host (hostWriteWord (0b01#2 ++ i) d)) = .wrTxData i d) ∧
  (∀ (a : HostAddr) (d : Byte), ignoresWrites a = true →
    (decode (.host (hostWriteWord a d))).mnemonic = "WR_IGNORED") ∧
  (∀ w : HostWord,
    (opcodeRows.filter fun r => r.covers w).map OpcodeRow.mnemonic = [(decode (.host w)).mnemonic])

/-- Decode and encode agree (R78 to R80): every well-formed instruction is read back from the step it is offered as. -/
def Obligations.DecodeOfEncodeIsTheInstruction : Prop :=
  ∀ i : Instr, i.WellFormed → decode (encode i) = i

/-- The other direction (R78 to R80): a step is the encoding of what it decodes to, a read with its ignored data bits
written 0 (R78). -/
def Obligations.EncodeOfDecodeIsTheStep : Prop :=
  (∀ w : HostWord, fieldW w = true → encode (decode (.host w)) = .host w) ∧
  (∀ w : HostWord, fieldW w = false → encode (decode (.host w)) = .host (w &&& 0x3F00#15)) ∧
  (∀ b : Byte, encode (decode (.rxPort b)) = .rxPort b) ∧
  (∀ r : RawStep, r = .txPort ∨ r = .internal ∨ r = .timeBase ∨ r = .reset → encode (decode r) = r)

/-- R79, R81: whatever an agent offers decodes to a well-formed instruction of the format it is offered in, and no
host word traps. -/
def Obligations.EveryOfferDecodesInItsFormat : Prop :=
  (∀ r : RawStep, (decode r).WellFormed ∧ (decode r).format = r.format) ∧
  (∀ (w : HostWord) (s : State), ∃ t, exec (decode (.host w)) s = .next t)

/-- 95_test_vectors.md: words the spec's vectors and examples write out, and what they stand for. -/
def Obligations.WordsOfTheVectorsDecode : Prop :=
  decode (.host 0x0100#15) = .rd 0x01#6 ∧ decode (.host 0x40FF#15) = .wrCtrl 0xFF#8 ∧
  decode (.host 0x4201#15) = .wrFlags 0x01#8 ∧ decode (.host 0x4301#15) = .send ∧
  decode (.host 0x4302#15) = .abort ∧ decode (.host 0x4303#15) = .ack ∧
  decode (.host 0x4300#15) = .cmdRsvd 0x00#8 ∧ decode (.host 0x4520#15) = .wrTxCat 0x20#8 ∧
  decode (.host 0x4611#15) = .wrTxFn 0x11#8 ∧ decode (.host 0x4710#15) = .wrTxLen 0x10#8 ∧
  decode (.host 0x5055#15) = .wrTxData 0#4 0x55#8 ∧ decode (.host 0x4800#15) = .wrIgnoredResult 0#3 0x00#8 ∧
  decode (.rxPort 0xAA#8) = .rxByte 0xAA#8

/-! ## Checksum, encoder, decoder -/

/-- R100. -/
def Obligations.ChecksumIsTheByteSumModulo256 : Prop :=
  (∀ s : List Byte, (sum8 s).toNat = (s.map BitVec.toNat).sum % 256) ∧
  (∀ s t : List Byte, s.Perm t → sum8 s = sum8 t) ∧
  (∀ s : List Byte, (s.map BitVec.toNat).sum % 256 = 0 → sum8 s = 0x00#8) ∧
  sum8 [] = 0x00#8 ∧ sum8 [0x80#8, 0x80#8] = 0x00#8 ∧ sum8 [0xFF#8, 0xFF#8] = 0xFE#8 ∧
  sum8 [0x12#8, 0x11#8, 0x02#8, 0x85#8] = 0xAA#8

/-- R103, with R101 and R102: when encoding fails, and every byte of the frame it gives. -/
def Obligations.EncoderLaysOutTheFrame : Prop :=
  ∀ (cat fn : Byte) (data : List Byte),
    (15 < data.length → encodeFrame cat fn data = .error .invalidOperand) ∧
    (data.length ≤ 15 → ∃ f, encodeFrame cat fn data = .ok f ∧ f.length = 3 + data.length ∧
      f[0]? = some ((cat &&& 0xF0#8) ||| BitVec.ofNat 8 data.length) ∧ f[1]? = some fn ∧
      (∀ i, i < data.length → f[2 + i]? = data[i]?) ∧
      f[2 + data.length]? = some (sum8 (f.take (2 + data.length))))

/-- R125 and R105: the decoder gives back what the encoder was given, the whole frame consumed. -/
def Obligations.DecodedFrameIsTheEncodedOne : Prop :=
  ∀ (cat fn : Byte) (data : List Byte), data.length ≤ 15 →
    ∃ f r, encodeFrame cat fn data = .ok f ∧ f.length = 3 + data.length ∧
      tryDecode f = .decoded r (3 + data.length) ∧
      r.category = cat &&& 0xF0#8 ∧ r.function = fn ∧ r.data = data ∧
      (r.category = cat ↔ cat &&& 0x0F#8 = 0x00#8)

/-- R122: every field of the record of a decoded frame, from the bytes of the buffer. -/
def Obligations.DecodedRecordHasTheFrameFields : Prop :=
  ∀ (buf : List Byte) (fr : Frame) (k : Nat), tryDecode buf = .decoded fr k →
    k = 3 + fr.n.toNat ∧ k ≤ buf.length ∧ buf[0]? = some fr.b0 ∧ fr.category = fr.b0 &&& 0xF0#8 ∧
    fr.n.toNat = (fr.b0 &&& 0x0F#8).toNat ∧ buf[1]? = some fr.function ∧
    fr.data.length = fr.n.toNat ∧ (∀ i, i < fr.n.toNat → fr.data[i]? = buf[2 + i]?) ∧
    buf[k - 1]? = some fr.checksum ∧ fr.checksum = sum8 (buf.take (k - 1))

/-- R123, read of the beginnings of one frame (log entry 9): too few bytes for the frame that the first byte announces
are incomplete, never invalid. -/
def Obligations.ShorterThanItsFrameIsIncomplete : Prop :=
  tryDecode [] = .incomplete ∧
  ∀ (buf p : List Byte) (b0 : Byte), buf.head? = some b0 → p <+: buf → p.length < 3 + (b0 &&& 0x0F#8).toNat →
    tryDecode p = .incomplete

/-- R124. -/
def Obligations.BytesAfterTheFrameAreNotRead : Prop :=
  ∀ (b0 : Byte) (rest : List Byte), frameLength b0 ≤ (b0 :: rest).length →
    tryDecode (b0 :: rest) = tryDecode ((b0 :: rest).take (frameLength b0))

/-- R126: what inverting bit `k` of byte `j` of a valid frame does, and that changes which cancel modulo 256 are not
detected, whichever bytes they stand in (category bits and the checksum byte among them) as long as the count is kept. -/
def Obligations.SingleBitErrorsAreCaughtButInTheCount : Prop :=
  ∀ (f : List Byte) (fr : Frame), tryDecode f = .decoded fr f.length →
    (∀ j k : Nat, j < f.length → k < 8 → 1 ≤ j ∨ 4 ≤ k →
      tryDecode (f.modify j fun b => b ^^^ (1#8 <<< k)) = .invalid) ∧
    (∀ k : Nat, k ≤ 3 →
      (f.length < 3 + (fr.n.toNat ^^^ 2 ^ k) →
        tryDecode (f.modify 0 fun b => b ^^^ (1#8 <<< k)) = .incomplete) ∧
      (3 + (fr.n.toNat ^^^ 2 ^ k) < f.length →
        tryDecode (f.modify 0 fun b => b ^^^ (1#8 <<< k)) = .invalid ∨
        ∃ r, tryDecode (f.modify 0 fun b => b ^^^ (1#8 <<< k)) = .decoded r (3 + (fr.n.toNat ^^^ 2 ^ k)))) ∧
    (∀ g : List Byte, g.length = f.length → g.head?.map countOf = f.head?.map countOf →
      g.getLast?.map (sum8 g.dropLast - ·) = f.getLast?.map (sum8 f.dropLast - ·) →
      ∃ r, tryDecode g = .decoded r g.length)

/-! ## The register map and the outputs -/

/-- R140, with the map of R51: what each address reads as, and that a read changes nothing but what it returns. -/
def Obligations.ReadReturnsTheRegisterMap : Prop :=
  (∀ (a : HostAddr) (s : State), exec (.rd a) s = .next { s with hostReads := s.hostReads ++ [memRead s a] }) ∧
  (∀ (a : HostAddr) (s : State) (r : List Byte), memRead { s with hostReads := r } a = memRead s a) ∧
  (∀ s : State,
    memRead s 0x00#6 = (s.ctrl.extractLsb' 0 2).setWidth 8 ∧ memRead s 0x01#6 = status s ∧
    memRead s 0x02#6 = (s.flags.extractLsb' 0 6).setWidth 8 ∧ memRead s 0x03#6 = 0x00#8 ∧
    memRead s 0x04#6 = (s.cmdres.extractLsb' 0 2).setWidth 8 ∧ memRead s 0x05#6 = s.regTxCat ∧
    memRead s 0x06#6 = s.regTxFn ∧ memRead s 0x07#6 = s.regTxLen ∧
    memRead s 0x08#6 = (s.resKind.extractLsb' 0 2).setWidth 8 ∧ memRead s 0x09#6 = s.rxB0 ∧
    memRead s 0x0A#6 = s.rxFn ∧ memRead s 0x0B#6 = s.rxChk ∧ memRead s 0x0C#6 = s.rxCnt ∧
    memRead s 0x0D#6 = BitVec.ofNat 8 s.rxBuf.length ∧
    (∀ i : Fin 15, memRead s (BitVec.ofNat 6 (0x10 + i.val)) = s.regTxData[i.val]) ∧
    (∀ i : Fin 15, memRead s (BitVec.ofNat 6 (0x20 + i.val)) = s.rxData[i.val]) ∧
    (∀ a : HostAddr, reservedAddress a = true → memRead s a = 0x00#8)) ∧
  memRead State.reset 0x01#6 = 0x00#8

/-- R24: the bits of `STATUS`. -/
def Obligations.StatusBitsReportTheState : Prop :=
  (∀ s : State,
    (status s).getLsbD 0 = s.txBusy ∧ (status s).getLsbD 1 = s.rxArmed ∧ (status s).getLsbD 2 = s.scan ∧
    (status s).getLsbD 3 = s.linkOk ∧ (status s).getLsbD 4 = decide (s.resKind ≠ 0x00#8) ∧
    (status s).getLsbD 5 = irq s ∧ (status s).getLsbD 6 = false ∧ (status s).getLsbD 7 = false) ∧
  status State.reset = 0x00#8

/-- R38: the outputs, and their values after reset. -/
def Obligations.OutputsAreFunctionsOfState : Prop :=
  (∀ s : State, txValid s = s.txBusy ∧ (∀ h : s.txIdx.toNat < 18, txByte s = s.txBuf[s.txIdx.toNat]) ∧
    rxReady s = !s.scan ∧ irq s = (s.ctrl.getLsbD 1 && decide (s.resKind ≠ 0x00#8))) ∧
  txValid State.reset = false ∧ txByte State.reset = 0x00#8 ∧ irq State.reset = false ∧ rxReady State.reset = true

/-- R52: reserved addresses and reserved bits read 0 and ignore writes. -/
def Obligations.ReservedSpaceIsInert : Prop :=
  (∀ (a : HostAddr) (d : Byte) (s : State), reservedAddress a = true →
    memRead s a = 0x00#8 ∧ exec (decode (.host (hostWriteWord a d))) s = .next s) ∧
  (∀ s : State, memRead s 0x00#6 &&& 0xFC#8 = 0x00#8 ∧ memRead s 0x01#6 &&& 0xC0#8 = 0x00#8 ∧
    memRead s 0x02#6 &&& 0xC0#8 = 0x00#8 ∧ memRead s 0x04#6 &&& 0xFC#8 = 0x00#8 ∧
    memRead s 0x08#6 &&& 0xFC#8 = 0x00#8) ∧
  (∀ (d : Byte) (s : State), exec (.wrCtrl d) s = exec (.wrCtrl (d &&& 0x03#8)) s ∧
    exec (.wrFlags d) s = exec (.wrFlags (d &&& 0x3F#8)) s)

/-! ## Host operations -/

/-- R142: the whole next state, what `CTRL` then reads as, and the two fields it sets at once. -/
def Obligations.WrCtrlStoresTwoBits : Prop :=
  ∀ (d : Byte) (s : State), decode (.host (hostWriteWord 0x00#6 d)) = .wrCtrl d ∧
    ∃ t, exec (.wrCtrl d) s = .next t ∧ t = { s with ctrl := d &&& 0x03#8 } ∧ memRead t 0x00#6 = d &&& 0x03#8 ∧
      dropAll t = d.getLsbD 0 ∧ irq t = (d.getLsbD 1 && decide (s.resKind ≠ 0x00#8))

/-- R143: bit by bit, and the whole next state. -/
def Obligations.WrFlagsClearsTheWrittenOnes : Prop :=
  ∀ (d : Byte) (s : State), decode (.host (hostWriteWord 0x02#6 d)) = .wrFlags d ∧
    ∃ t, exec (.wrFlags d) s = .next t ∧ t = { s with flags := t.flags } ∧
      (∀ k, t.flags.getLsbD k = (s.flags.getLsbD k && !(d.getLsbD k && decide (k < 6)))) ∧
      (d = 0x00#8 → t = s) ∧ (d = 0xFF#8 → memRead t 0x02#6 = 0x00#8)

/-- R144: the three staging header writes, each with the whole next state; a length above 15 is refused by SEND, and
the low nibble of the category is ignored by it. -/
def Obligations.StagingHeaderWritesStoreAllBits : Prop :=
  (∀ (d : Byte) (s : State),
    decode (.host (hostWriteWord 0x05#6 d)) = .wrTxCat d ∧ exec (.wrTxCat d) s = .next { s with regTxCat := d } ∧
    decode (.host (hostWriteWord 0x06#6 d)) = .wrTxFn d ∧ exec (.wrTxFn d) s = .next { s with regTxFn := d } ∧
    decode (.host (hostWriteWord 0x07#6 d)) = .wrTxLen d ∧ exec (.wrTxLen d) s = .next { s with regTxLen := d } ∧
    memRead { s with regTxCat := d } 0x05#6 = d ∧ memRead { s with regTxFn := d } 0x06#6 = d ∧
    memRead { s with regTxLen := d } 0x07#6 = d) ∧
  (∀ (d : Byte) (s : State), s.txBusy = false → s.rxArmed = false → 15 < d.toNat →
    exec .send { s with regTxLen := d } =
      .next { s with regTxLen := d, cmdres := 0x01#8, flags := s.flags ||| 0x10#8 }) ∧
  (∀ (d fn : Byte) (data : List Byte), encodeFrame d fn data = encodeFrame (d &&& 0xF0#8) fn data)

/-- R145: `TX_DATA[i]` is written and nothing else; an operand past `TX_LEN` is stored but not sent. -/
def Obligations.WrTxDataStoresOneOperand : Prop :=
  ∀ (i : BitVec 4) (d : Byte) (s : State), i ≠ 15#4 →
    decode (.host (hostWriteWord (0b01#2 ++ i) d)) = .wrTxData i d ∧
    ∃ t, exec (.wrTxData i d) s = .next t ∧ t = { s with regTxData := t.regTxData } ∧
      (∀ j : Fin 15, t.regTxData[j.val] = if j.val = i.toNat then d else s.regTxData[j.val]) ∧
      memRead t (BitVec.ofNat 6 (0x10 + i.toNat)) = d ∧
      (s.regTxLen.toNat ≤ i.toNat → t.regTxData.toList.take t.regTxLen.toNat =
        s.regTxData.toList.take s.regTxLen.toNat)

/-- R146: no state changes, for each of the five rows and for every address they cover. -/
def Obligations.IgnoredWritesChangeNothing : Prop :=
  (∀ (d : Byte) (a : BitVec 3) (b : BitVec 5) (s : State),
    exec (.wrIgnoredStatus d) s = .next s ∧ exec (.wrIgnoredCmdres d) s = .next s ∧
    exec (.wrIgnoredResult a d) s = .next s ∧ exec (.wrIgnoredGap d) s = .next s ∧
    exec (.wrIgnoredUpper b d) s = .next s) ∧
  (∀ (a : HostAddr) (d : Byte) (s : State), ignoresWrites a = true →
    (decode (.host (hostWriteWord a d))).mnemonic = "WR_IGNORED" ∧
    exec (decode (.host (hostWriteWord a d))) s = .next s)

/-- R147: the three cases of SEND in their order, each with the whole next state. -/
def Obligations.SendChecksThenLatchesTheFrame : Prop :=
  ∀ s : State,
    (s.txBusy = true ∨ s.rxArmed = true →
      exec .send s = .next { s with cmdres := 0x02#8, flags := s.flags ||| 0x08#8 }) ∧
    (s.txBusy = false → s.rxArmed = false → 15 < s.regTxLen.toNat →
      exec .send s = .next { s with cmdres := 0x01#8, flags := s.flags ||| 0x10#8 }) ∧
    (s.txBusy = false → s.rxArmed = false → s.regTxLen.toNat ≤ 15 →
      ∃ f t, encodeFrame s.regTxCat s.regTxFn (s.regTxData.toList.take s.regTxLen.toNat) = .ok f ∧
        exec .send s = .next t ∧ f.length = s.regTxLen.toNat + 3 ∧
        (∀ i, i < s.regTxLen.toNat + 3 → t.txBuf[i]? = f[i]?) ∧
        (∀ i, s.regTxLen.toNat + 3 ≤ i → t.txBuf[i]? = s.txBuf[i]?) ∧
        t.txLen.toNat = s.regTxLen.toNat + 3 ∧
        t = { s with cmdres := 0x00#8, txBuf := t.txBuf, txLen := t.txLen, txIdx := 0#5, txBusy := true })

/-- R148: ABORT with and without an exchange in progress, each with the whole next state. -/
def Obligations.AbortCancelsTheExchange : Prop :=
  ∀ s : State,
    (s.txBusy = true ∨ s.rxArmed = true →
      exec .abort s = .next { s with
        cmdres := 0x00#8, txBusy := false, txIdx := 0#5
        flags := if s.resKind = 0x00#8 then s.flags else s.flags ||| 0x04#8
        resKind := 0x03#8, rxB0 := 0x00#8, rxFn := 0x00#8, rxChk := 0x00#8, rxCnt := 0x00#8
        rxData := Vector.replicate 15 0x00#8, rxArmed := false, rxBuf := [], scan := false, timer := 0 }) ∧
    (s.txBusy = false → s.rxArmed = false → exec .abort s = .next { s with cmdres := 0x00#8 })

/-- R149: the whole next state, and that it drops `irq`. -/
def Obligations.AckRetiresTheResult : Prop :=
  ∀ s : State, ∃ t, exec .ack s = .next t ∧ irq t = false ∧
    t = { s with
      cmdres := 0x00#8, resKind := 0x00#8, rxB0 := 0x00#8, rxFn := 0x00#8, rxChk := 0x00#8, rxCnt := 0x00#8
      rxData := Vector.replicate 15 0x00#8 }

/-- R150: every reserved command value has one effect. -/
def Obligations.ReservedCommandReportsBadCmd : Prop :=
  ∀ (d : Byte) (s : State), d ≠ 0x01#8 → d ≠ 0x02#8 → d ≠ 0x03#8 →
    decode (.host (hostWriteWord 0x03#6 d)) = .cmdRsvd d ∧
    exec (.cmdRsvd d) s = .next { s with cmdres := 0x03#8, flags := s.flags ||| 0x20#8 }

/-! ## Stream steps, the time base and reset -/

/-- R173 and the arming of R172, each case with the whole next state. The index is below 18 in every reachable state
(R39 item 6). -/
def Obligations.TxPopEmitsAndArmsOnTheLastByte : Prop :=
  ∀ s : State, s.txBusy = true → ∀ h : s.txIdx.toNat < 18,
    (s.txIdx.toNat + 1 = s.txLen.toNat →
      exec .txPop s = .next { s with
        txStream := s.txStream ++ [s.txBuf[s.txIdx.toNat]], txBusy := false, txIdx := 0#5
        rxArmed := true, timer := 0, rxBuf := [], scan := false }) ∧
    (s.txIdx.toNat + 1 ≠ s.txLen.toNat →
      ∃ t, exec .txPop s = .next t ∧ t.txIdx.toNat = s.txIdx.toNat + 1 ∧
        t = { s with txStream := s.txStream ++ [s.txBuf[s.txIdx.toNat]], txIdx := t.txIdx })

/-- R174 and EVAL of R170: a byte is stray while no attempt is open, else assembled and evaluated. -/
def Obligations.RxByteIsStrayOrEvaluated : Prop :=
  ∀ (b : Byte) (s : State), s.scan = false →
    (s.rxArmed = false → exec (.rxByte b) s = .next { s with flags := s.flags ||| 0x02#8 }) ∧
    (s.rxArmed = true → ∃ t, exec (.rxByte b) s = .next t ∧ EvaluatesTo (s.rxBuf ++ [b]) s t)

/-- R175 and EVAL of R170: a scan evaluates the buffer as it stands. -/
def Obligations.ScanEvaluatesTheBuffer : Prop :=
  ∀ s : State, s.scan = true → ∃ t, exec .scan s = .next t ∧ EvaluatesTo s.rxBuf s t

/-- R176, for every budget and timer width that R6 allows, and that the block's TICK is this with its own. -/
def Obligations.TickCountsUntilTheDeadline : Prop :=
  (∀ (tResp tw : Nat) (s : State), 1 ≤ tResp → tResp - 1 < 2 ^ tw → s.timer ≤ tResp - 1 →
    (s.rxArmed = false → tickTimer tResp tw s = s) ∧
    (s.rxArmed = true → s.timer + 1 = tResp → tickTimer tResp tw s = { s with
      flags := if s.resKind = 0x00#8 then s.flags else s.flags ||| 0x04#8
      resKind := 0x02#8, rxB0 := 0x00#8, rxFn := 0x00#8, rxChk := 0x00#8, rxCnt := 0x00#8
      rxData := Vector.replicate 15 0x00#8, linkOk := false
      rxArmed := false, rxBuf := [], scan := false, timer := 0 }) ∧
    (s.rxArmed = true → s.timer + 1 ≠ tResp → tickTimer tResp tw s = { s with timer := s.timer + 1 })) ∧
  (∀ s : State, exec .tick s = .next (tickTimer Config.tResp Config.tw s))

/-- R220: what RESET leaves, field by field, whatever the state before it; what has left the transmit port stays
emitted, and a byte delivered after it is stray. That RESET keeps the model's own fields `pending`, `hostReads` and
`draws` is the model's choice (log entry 8, DEDUCED). -/
def Obligations.ResetClearsTheBlock : Prop :=
  (∀ s : State, ∃ t, exec .reset s = .next t ∧
    t.ctrl = 0x00#8 ∧ t.flags = 0x00#8 ∧ t.cmdres = 0x00#8 ∧ t.regTxCat = 0x00#8 ∧ t.regTxFn = 0x00#8 ∧
    t.regTxLen = 0x00#8 ∧ (∀ i : Fin 15, t.regTxData[i.val] = 0x00#8) ∧ t.resKind = 0x00#8 ∧ t.rxB0 = 0x00#8 ∧
    t.rxFn = 0x00#8 ∧ t.rxChk = 0x00#8 ∧ t.rxCnt = 0x00#8 ∧ (∀ i : Fin 15, t.rxData[i.val] = 0x00#8) ∧
    t.txBusy = false ∧ t.txLen = 0#5 ∧ t.txIdx = 0#5 ∧ (∀ i : Fin 18, t.txBuf[i.val] = 0x00#8) ∧
    t.rxArmed = false ∧ t.scan = false ∧ t.rxBuf = [] ∧ t.timer = 0 ∧ t.linkOk = false ∧
    status t = 0x00#8 ∧ memRead t 0x0D#6 = 0x00#8 ∧ txValid t = false ∧ irq t = false ∧ rxReady t = true ∧
    t.txStream = s.txStream ∧ t.pending = s.pending ∧ t.hostReads = s.hostReads ∧ t.draws = s.draws ∧
    (∀ b : Byte, exec (.rxByte b) t = .next { t with flags := 0x02#8 })) ∧
  (∀ t : State, exec .reset State.reset = .next t → t = State.reset)

/-! ## The machine as a whole -/

/-- R177, R10: the step takes the first offer that is listed, decoded. A byte held off by `s.scan` stays first while
the scanner moves; a take or a scan that is not enabled does not happen (the model's choice, log entry 2); where
nothing is listed the step is that of a free draw (the model's choice, log entry 1). -/
def Obligations.StepRunsTheOfferedInstruction : Prop :=
  (∀ (s : State) (r : RawStep) (rest : List RawStep), s.pending = r :: rest →
    (enabled (decode r) s = true → step s = exec (decode r) { s with pending := rest }) ∧
    ((∃ b, r = .rxPort b) → s.scan = true → step s = exec .scan s) ∧
    (r = .txPort → s.txBusy = false → step s = .next { s with pending := rest }) ∧
    (r = .internal → s.scan = false → step s = .next { s with pending := rest })) ∧
  (∀ s : State, s.pending = [] →
    step s = step { s with pending := [Config.agentStep s.draws], draws := s.draws + 1 })

/-- The host's way in (the model's choice, log entries 1 and 10): a table word put in front is what the next step
runs. -/
def Obligations.FetchedWordIsTheNextStep : Prop :=
  (∀ (s : State) (w : Nat), w < 2 ^ 15 →
    decodeTableWord 16 w = some (decode (.host (BitVec.ofNat 15 w))) ∧
    step (s.withFetchWord 16 w) = exec (decode (.host (BitVec.ofNat 15 w))) s) ∧
  (∀ (s : State) (w : Nat), w < 2 ^ 8 → s.scan = false →
    decodeTableWord 8 w = some (.rxByte (BitVec.ofNat 8 w)) ∧
    step (s.withFetchWord 8 w) = exec (.rxByte (BitVec.ofNat 8 w)) s)

/-- R177: which steps may be taken is exactly the table, and any of them, offered, is the next one. That a step which
is not enabled has no next state in `exec`, by a refusal, is the model's choice (log entry 3); that offers are listed
in `pending` and the first is taken is the model's choice (log entry 1). -/
def Obligations.ExactlyTheEnabledStepsComplete : Prop :=
  (∀ (i : Instr) (s : State), (∃ t, exec i s = .next t) ↔
    ((i = .txPop → s.txBusy = true) ∧ ((∃ b, i = .rxByte b) → s.scan = false) ∧ (i = .scan → s.scan = true))) ∧
  (∀ (i : Instr) (s t : State), i.WellFormed → exec i s = .next t →
    step { s with pending := encode i :: s.pending } = .next t)

/-- R205: in every state, whatever is offered or drawn, the machine goes on. That an offer which is not enabled lets
it go on is the model's choice (log entry 2). -/
def Obligations.StepNeverStops : Prop :=
  ∀ s : State, ∃ t, step s = .next t

/-- R39: the invariants of assembly and transmission are kept by every step. -/
def Obligations.StepKeepsTheAssemblyInvariants : Prop :=
  ∀ s t : State, AssemblyInv s → step s = .next t → AssemblyInv t

/-- R23, R25, R27, R30: reserved bits stay 0 in the stored registers. -/
def Obligations.StepKeepsReservedBitsZero : Prop :=
  ∀ s t : State, ReservedBitsZero s → step s = .next t → ReservedBitsZero t

/-- R31, R32, R202: the result registers hold a frame whose checksum is right, or nothing. -/
def Obligations.StepKeepsTheResultAValidFrame : Prop :=
  ∀ s t : State, ResultInv s → step s = .next t → ResultInv t

/-- R220, R39: the state after reset meets the three invariants. -/
def Obligations.ResetMeetsTheInvariants : Prop :=
  AssemblyInv State.reset ∧ ReservedBitsZero State.reset ∧ ResultInv State.reset

/-- R223: from a state without an exchange, until the host's next SEND, ACK or RESET, the result registers hold still
and no exchange opens. -/
def Obligations.ResultHoldsUntilTheNextSend : Prop :=
  ∀ (is : List Instr) (s t : State), AssemblyInv s → s.txBusy = false → s.rxArmed = false →
    Instr.send ∉ is → Instr.ack ∉ is → Instr.reset ∉ is → execAll is s = .next t →
    ResultRegistersEqual s t ∧ t.txBusy = false ∧ t.rxArmed = false

/-- R179: an attempt opens only when TX_POP takes the last byte, and ends only with its terminal result or RESET. -/
def Obligations.AttemptOpensAndEndsOnlyAsListed : Prop :=
  ∀ (i : Instr) (s t : State), exec i s = .next t →
    (s.rxArmed = false → t.rxArmed = true → i = .txPop ∧ s.txIdx.toNat + 1 = s.txLen.toNat) ∧
    (s.rxArmed = true → t.rxArmed = false →
      (t.resKind = 0x01#8 ∧ t.linkOk = true ∧ (i = .scan ∨ ∃ b, i = .rxByte b)) ∨
      (t.resKind = 0x02#8 ∧ t.linkOk = false ∧ i = .tick ∧ s.timer + 1 = Config.tResp) ∨
      (t.resKind = 0x03#8 ∧ t.linkOk = s.linkOk ∧ i = .abort) ∨
      (t.resKind = 0x00#8 ∧ i = .reset))

/-- R230: while the attempt stays open the timer counts exactly the TICK steps, however other steps come between, and
the next TICK ends it exactly when it is the `T_RESP`-th; a TICK outside an attempt does not count. -/
def Obligations.TimeoutComesAtTheBudgetedTick : Prop :=
  (∀ (is : List Instr) (s t : State), AssemblyInv s → ArmedThroughout is s → execAll is s = .next t →
    t.timer = s.timer + is.count .tick ∧ t.timer < Config.tResp ∧
    ∃ u, exec .tick t = .next u ∧
      (u.rxArmed = false ↔ s.timer + is.count .tick + 1 = Config.tResp) ∧
      (u.rxArmed = false → u.resKind = 0x02#8 ∧ u.linkOk = false)) ∧
  (∀ s : State, s.rxArmed = false → exec .tick s = .next s)

/-- R175: a chain of scans ends after at most 17 of them. -/
def Obligations.ScanChainEnds : Prop :=
  ∀ s : State, AssemblyInv s → s.scan = true →
    ∃ k t, 1 ≤ k ∧ k ≤ 17 ∧ execAll (List.replicate k .scan) s = .next t ∧ t.scan = false

/-- R175: under DROP_ALL `s.scan` is never raised. -/
def Obligations.DropAllNeverRaisesScan : Prop :=
  ∀ (i : Instr) (s t : State), s.ctrl.getLsbD 0 = true → s.scan = false → exec i s = .next t → t.scan = false

/-- R224: a change to DROP_ALL while a scan is due leaves it due, and it then evaluates under DROP_ALL. -/
def Obligations.PolicyChangeActsAtTheNextEvaluation : Prop :=
  ∀ (d : Byte) (s : State), s.scan = true → d.getLsbD 0 = true → tryDecode s.rxBuf = .invalid →
    ∃ u, exec (.wrCtrl d) s = .next u ∧ u.scan = true ∧ u.rxBuf = s.rxBuf ∧
      exec .scan u = .next { s with
        ctrl := d &&& 0x03#8, flags := s.flags ||| 0x01#8, rxBuf := [], scan := false }

/-- R173, R54: after an accepted SEND, as many TX_POP steps as the frame has bytes put exactly the encoded frame on the
transmit stream, in index order, and arm the receiver. -/
def Obligations.SentFrameLeavesInIndexOrder : Prop :=
  ∀ s : State, s.txBusy = false → s.rxArmed = false → s.regTxLen.toNat ≤ 15 →
    ∃ f t u, encodeFrame s.regTxCat s.regTxFn (s.regTxData.toList.take s.regTxLen.toNat) = .ok f ∧
      exec .send s = .next t ∧ execAll (List.replicate f.length .txPop) t = .next u ∧
      u.txStream = s.txStream ++ f ∧ u.txBusy = false ∧ u.rxArmed = true ∧ u.timer = 0 ∧ u.rxBuf = [] ∧
      u.scan = false ∧ ResultRegistersEqual s u

/-- R34, R228: leaving out the host's staging writes after a SEND changes nothing on the transmit port. -/
def Obligations.StagingWritesDoNotReachTheTransmitPort : Prop :=
  ∀ (is : List Instr) (s t : State), Instr.send ∉ is → execAll is s = .next t →
    ∃ u, execAll (is.filter fun i => !writesStaging i) s = .next u ∧
      u.txStream = t.txStream ∧ u.txBusy = t.txBusy ∧ u.txIdx = t.txIdx

/-- R174, R179, R202: an armed receiver that is given the bytes of any encoded frame ends the attempt with that frame
as its DECODED result. -/
def Obligations.ReceivedFrameBecomesTheResult : Prop :=
  ∀ (cat fn : Byte) (data : List Byte) (s : State), data.length ≤ 15 →
    s.rxArmed = true → s.rxBuf = [] → s.scan = false →
    ∃ f t, encodeFrame cat fn data = .ok f ∧ execAll (f.map Instr.rxByte) s = .next t ∧
      t.resKind = 0x01#8 ∧ some t.rxB0 = f[0]? ∧ t.rxFn = fn ∧ some t.rxChk = f.getLast? ∧
      t.rxCnt = BitVec.ofNat 8 (3 + data.length) ∧
      (∀ i : Fin 15, t.rxData[i.val] = (data[i.val]?).getD 0x00#8) ∧
      t.linkOk = true ∧ t.rxArmed = false ∧ t.rxBuf = [] ∧ t.timer = 0 ∧
      t.flags = (if s.resKind = 0x00#8 then s.flags else s.flags ||| 0x04#8)

/-- R82, R83: the listing `SENDF` stages and sends, and `TXALL` then puts the encoded frame on the transmit stream. -/
def Obligations.SendfThenTxallTransmitsTheFrame : Prop :=
  ∀ (cat fn : Byte) (data : List Byte) (s : State), data.length ≤ 15 → s.txBusy = false → s.rxArmed = false →
    ∃ f t u, encodeFrame cat fn data = .ok f ∧ execAll (listed (sendf cat fn data)) s = .next t ∧
      t.txBusy = true ∧ t.cmdres = 0x00#8 ∧ execAll (listed (txall t)) t = .next u ∧
      u.txStream = s.txStream ++ f ∧ u.txBusy = false ∧ u.rxArmed = true

/-! ## What changes a register, over all instructions -/

/-- R25: a flag falls only by a host write of 1 to it or by RESET. -/
def Obligations.FlagsFallOnlyByTheHostOrReset : Prop :=
  ∀ (i : Instr) (s t : State) (k : Nat), exec i s = .next t → s.flags.getLsbD k = true → t.flags.getLsbD k = false →
    i = .reset ∨ ∃ d, i = .wrFlags d ∧ d.getLsbD k = true

/-- R25: what sets each flag. -/
def Obligations.FlagsRiseOnlyAsListed : Prop :=
  ∀ (i : Instr) (s t : State) (k : Nat), exec i s = .next t → s.flags.getLsbD k = false → t.flags.getLsbD k = true →
    (k = 0 ∧ (i = .scan ∨ ∃ b, i = .rxByte b)) ∨
    (k = 1 ∧ (i = .scan ∨ ∃ b, i = .rxByte b)) ∨
    (k = 2 ∧ s.resKind ≠ 0x00#8 ∧ (i = .scan ∨ (∃ b, i = .rxByte b) ∨ i = .tick ∨ i = .abort)) ∨
    (k = 3 ∧ i = .send ∧ (s.txBusy = true ∨ s.rxArmed = true)) ∨
    (k = 4 ∧ i = .send ∧ s.txBusy = false ∧ s.rxArmed = false ∧ 15 < s.regTxLen.toNat) ∨
    (k = 5 ∧ ∃ d, i = .cmdRsvd d)

/-- R201, R27: `CMDRES` is written only by the writes to `CMD` and by RESET. -/
def Obligations.CmdresChangesOnlyByCommands : Prop :=
  ∀ (i : Instr) (s t : State), exec i s = .next t → t.cmdres ≠ s.cmdres →
    i = .send ∨ i = .abort ∨ i = .ack ∨ i = .reset ∨ ∃ d, i = .cmdRsvd d

/-- R37: link health rises only by a DECODED result and falls only by a TIMEOUT result or RESET. -/
def Obligations.LinkHealthFollowsTheResults : Prop :=
  ∀ (i : Instr) (s t : State), exec i s = .next t → t.linkOk ≠ s.linkOk →
    (t.linkOk = true ∧ t.resKind = 0x01#8 ∧ (i = .scan ∨ ∃ b, i = .rxByte b)) ∨
    (t.linkOk = false ∧ t.resKind = 0x02#8 ∧ i = .tick) ∨ (t.linkOk = false ∧ i = .reset)

/-- R204: the interrupt line falls only by ACK, by masking or by RESET, and rises only with a result or by
unmasking. -/
def Obligations.InterruptLineMovesOnlyAsListed : Prop :=
  ∀ (i : Instr) (s t : State), exec i s = .next t →
    (irq s = true → irq t = false → i = .ack ∨ i = .reset ∨ ∃ d, i = .wrCtrl d ∧ d.getLsbD 1 = false) ∧
    (irq s = false → irq t = true →
      (∃ d, i = .wrCtrl d ∧ d.getLsbD 1 = true ∧ s.resKind ≠ 0x00#8) ∨
      (s.ctrl.getLsbD 1 = true ∧ s.resKind = 0x00#8 ∧ t.resKind ≠ 0x00#8 ∧ t.rxArmed = false ∧
        (i = .scan ∨ (∃ b, i = .rxByte b) ∨ i = .tick ∨ i = .abort)))
end

