-- ==== Sys2Proof/Laws/Codec.lean ====
section
/-! SUPPORT. What the codec's functions can answer, said once. -/

namespace Sys2Proof.Machine

open Sys2Proof

@[simp] theorem sum8_nil : sum8 [] = 0x00#8 := rfl

theorem foldl_add_start (s : List Byte) (a b : Byte) :
    s.foldl (· + ·) (a + b) = a + s.foldl (· + ·) b := by
  induction s generalizing b with
  | nil => rfl
  | cons x xs ih => simpa [BitVec.add_assoc] using ih (b + x)

@[simp] theorem sum8_cons (b : Byte) (s : List Byte) : sum8 (b :: s) = b + sum8 s := by
  have h := foldl_add_start s b 0x00#8
  simp only [sum8, List.foldl_cons]
  rw [BitVec.zero_add, ← h, BitVec.add_zero]

theorem sum8_append (s t : List Byte) : sum8 (s ++ t) = sum8 s + sum8 t := by
  induction s with
  | nil => simp
  | cons x xs ih => simp [ih, BitVec.add_assoc]

@[simp] theorem frameHead_length (cat fn : Byte) (data : List Byte) :
    (frameHead cat fn data).length = 2 + data.length := by
  simp [frameHead]
  omega

@[simp] theorem frameBytes_length (cat fn : Byte) (data : List Byte) :
    (frameBytes cat fn data).length = 3 + data.length := by
  simp [frameBytes]
  omega

theorem frameLength_ge (b0 : Byte) : 3 ≤ frameLength b0 := by
  simp [frameLength]

theorem frameLength_le (b0 : Byte) : frameLength b0 ≤ 18 := by
  have := (countOf b0).isLt
  simp only [frameLength]
  omega

theorem encodeFrame_ok {cat fn : Byte} {data : List Byte} (h : data.length ≤ 15) :
    encodeFrame cat fn data = .ok (frameBytes cat fn data) := by
  have : ¬ data.length > Config.maxOperands := by simp only [Config.maxOperands]; omega
  simp [encodeFrame, this]

theorem encodeFrame_error {cat fn : Byte} {data : List Byte} (h : 15 < data.length) :
    encodeFrame cat fn data = .error .invalidOperand := by
  have : data.length > Config.maxOperands := by simp only [Config.maxOperands]; omega
  simp [encodeFrame, this]

@[simp] theorem tryDecode_nil : tryDecode [] = .incomplete := rfl

/-- Everything the decoder can do with a buffer that holds a byte. -/
theorem tryDecode_cases (b0 : Byte) (rest : List Byte) :
    ((b0 :: rest).length < frameLength b0 ∧ tryDecode (b0 :: rest) = .incomplete) ∨
    (frameLength b0 ≤ (b0 :: rest).length ∧
      (b0 :: rest)[frameLength b0 - 1]? = some (sum8 ((b0 :: rest).take (frameLength b0 - 1))) ∧
      tryDecode (b0 :: rest) = .decoded (frameOf ((b0 :: rest).take (frameLength b0))) (frameLength b0)) ∨
    (frameLength b0 ≤ (b0 :: rest).length ∧
      (b0 :: rest)[frameLength b0 - 1]? ≠ some (sum8 ((b0 :: rest).take (frameLength b0 - 1))) ∧
      tryDecode (b0 :: rest) = .invalid) := by
  by_cases h1 : (b0 :: rest).length < frameLength b0
  · exact .inl ⟨h1, by simp only [tryDecode, if_pos h1]⟩
  · by_cases h2 : (b0 :: rest)[frameLength b0 - 1]? = some (sum8 ((b0 :: rest).take (frameLength b0 - 1)))
    · exact .inr (.inl ⟨not_lt.mp h1, h2, by simp only [tryDecode, if_neg h1, if_pos h2]⟩)
    · exact .inr (.inr ⟨not_lt.mp h1, h2, by simp only [tryDecode, if_neg h1, if_neg h2]⟩)

/-- A decoded or invalid buffer holds at least three bytes. -/
theorem length_of_not_incomplete {buf : List Byte} (h : tryDecode buf ≠ .incomplete) : 3 ≤ buf.length := by
  cases buf with
  | nil => exact absurd tryDecode_nil h
  | cons b0 rest =>
    rcases tryDecode_cases b0 rest with ⟨_, h1⟩ | ⟨h1, _⟩ | ⟨h1, _⟩
    · exact absurd h1 h
    · exact le_trans (frameLength_ge b0) h1
    · exact le_trans (frameLength_ge b0) h1

/-- A buffer that waits for more bytes is shorter than the longest frame. -/
theorem length_of_incomplete {buf : List Byte} (h : tryDecode buf = .incomplete) : buf.length ≤ 17 := by
  cases buf with
  | nil => simp
  | cons b0 rest =>
    rcases tryDecode_cases b0 rest with ⟨h1, _⟩ | ⟨_, _, h1⟩ | ⟨_, _, h1⟩
    · exact Nat.le_of_lt_succ (lt_of_lt_of_le h1 (frameLength_le b0))
    · simp [h1] at h
    · simp [h1] at h

end Sys2Proof.Machine
end

