-- ==== Sys2Proof/Laws/Decode.lean ====
section
/-! SUPPORT. The fields of the words the encoder writes (R78). -/

namespace Sys2Proof

@[simp] theorem fieldW_hostWriteWord (a : HostAddr) (d : Byte) : fieldW (hostWriteWord a d) = true := by
  show (1#1 ++ a ++ d).getLsbD 14 = true
  rw [BitVec.getLsbD_append, BitVec.getLsbD_append]
  simp

@[simp] theorem fieldA_hostWriteWord (a : HostAddr) (d : Byte) : fieldA (hostWriteWord a d) = a := by
  show (1#1 ++ a ++ d).extractLsb' 8 6 = a
  ext i hi
  simp only [BitVec.getElem_extractLsb', BitVec.getLsbD_append]
  simp [hi]

@[simp] theorem fieldD_hostWriteWord (a : HostAddr) (d : Byte) : fieldD (hostWriteWord a d) = d := by
  show (1#1 ++ a ++ d).extractLsb' 0 8 = d
  ext i hi
  simp only [BitVec.getElem_extractLsb', BitVec.getLsbD_append]
  simp [hi]

@[simp] theorem fieldW_hostReadWord (a : HostAddr) : fieldW (hostReadWord a) = false := by
  show (0#1 ++ a ++ 0x00#8).getLsbD 14 = false
  rw [BitVec.getLsbD_append, BitVec.getLsbD_append]
  simp

@[simp] theorem fieldA_hostReadWord (a : HostAddr) : fieldA (hostReadWord a) = a := by
  show (0#1 ++ a ++ 0x00#8).extractLsb' 8 6 = a
  ext i hi
  simp only [BitVec.getElem_extractLsb', BitVec.getLsbD_append]
  simp [hi]

/-- A host write's word decodes by its address and its data. -/
@[simp] theorem decode_hostWriteWord (a : HostAddr) (d : Byte) :
    decode (.host (hostWriteWord a d)) = decodeWrite a d := by
  simp [decode, decodeHost]

@[simp] theorem decode_hostReadWord (a : HostAddr) : decode (.host (hostReadWord a)) = .rd a := by
  simp [decode, decodeHost]

end Sys2Proof
end

