-- ==== Sys2Proof/Laws/State.lean ====
section
/-! SUPPORT. One lemma per field per update of the state, all by definition, so that no proof unfolds an update. -/

namespace Sys2Proof.Machine

open Sys2Proof

variable (s : State)

/-! ## reportCmd -/

@[simp] theorem reportCmd_ctrl (c : CmdCode) : (reportCmd c s).ctrl = s.ctrl := rfl
@[simp] theorem reportCmd_flags (c : CmdCode) : (reportCmd c s).flags = s.flags := rfl
@[simp] theorem reportCmd_cmdres (c : CmdCode) : (reportCmd c s).cmdres = cmdCode c := rfl
@[simp] theorem reportCmd_regTxCat (c : CmdCode) : (reportCmd c s).regTxCat = s.regTxCat := rfl
@[simp] theorem reportCmd_regTxFn (c : CmdCode) : (reportCmd c s).regTxFn = s.regTxFn := rfl
@[simp] theorem reportCmd_regTxLen (c : CmdCode) : (reportCmd c s).regTxLen = s.regTxLen := rfl
@[simp] theorem reportCmd_regTxData (c : CmdCode) : (reportCmd c s).regTxData = s.regTxData := rfl
@[simp] theorem reportCmd_resKind (c : CmdCode) : (reportCmd c s).resKind = s.resKind := rfl
@[simp] theorem reportCmd_rxB0 (c : CmdCode) : (reportCmd c s).rxB0 = s.rxB0 := rfl
@[simp] theorem reportCmd_rxFn (c : CmdCode) : (reportCmd c s).rxFn = s.rxFn := rfl
@[simp] theorem reportCmd_rxChk (c : CmdCode) : (reportCmd c s).rxChk = s.rxChk := rfl
@[simp] theorem reportCmd_rxCnt (c : CmdCode) : (reportCmd c s).rxCnt = s.rxCnt := rfl
@[simp] theorem reportCmd_rxData (c : CmdCode) : (reportCmd c s).rxData = s.rxData := rfl
@[simp] theorem reportCmd_txBusy (c : CmdCode) : (reportCmd c s).txBusy = s.txBusy := rfl
@[simp] theorem reportCmd_txBuf (c : CmdCode) : (reportCmd c s).txBuf = s.txBuf := rfl
@[simp] theorem reportCmd_txLen (c : CmdCode) : (reportCmd c s).txLen = s.txLen := rfl
@[simp] theorem reportCmd_txIdx (c : CmdCode) : (reportCmd c s).txIdx = s.txIdx := rfl
@[simp] theorem reportCmd_rxArmed (c : CmdCode) : (reportCmd c s).rxArmed = s.rxArmed := rfl
@[simp] theorem reportCmd_rxBuf (c : CmdCode) : (reportCmd c s).rxBuf = s.rxBuf := rfl
@[simp] theorem reportCmd_scan (c : CmdCode) : (reportCmd c s).scan = s.scan := rfl
@[simp] theorem reportCmd_timer (c : CmdCode) : (reportCmd c s).timer = s.timer := rfl
@[simp] theorem reportCmd_linkOk (c : CmdCode) : (reportCmd c s).linkOk = s.linkOk := rfl
@[simp] theorem reportCmd_txStream (c : CmdCode) : (reportCmd c s).txStream = s.txStream := rfl
@[simp] theorem reportCmd_hostReads (c : CmdCode) : (reportCmd c s).hostReads = s.hostReads := rfl
@[simp] theorem reportCmd_pending (c : CmdCode) : (reportCmd c s).pending = s.pending := rfl
@[simp] theorem reportCmd_draws (c : CmdCode) : (reportCmd c s).draws = s.draws := rfl

/-! ## setFlag -/

@[simp] theorem setFlag_ctrl (f : Flag) : (setFlag f s).ctrl = s.ctrl := rfl
@[simp] theorem setFlag_flags (f : Flag) : (setFlag f s).flags = withFlag f s.flags := rfl
@[simp] theorem setFlag_cmdres (f : Flag) : (setFlag f s).cmdres = s.cmdres := rfl
@[simp] theorem setFlag_regTxCat (f : Flag) : (setFlag f s).regTxCat = s.regTxCat := rfl
@[simp] theorem setFlag_regTxFn (f : Flag) : (setFlag f s).regTxFn = s.regTxFn := rfl
@[simp] theorem setFlag_regTxLen (f : Flag) : (setFlag f s).regTxLen = s.regTxLen := rfl
@[simp] theorem setFlag_regTxData (f : Flag) : (setFlag f s).regTxData = s.regTxData := rfl
@[simp] theorem setFlag_resKind (f : Flag) : (setFlag f s).resKind = s.resKind := rfl
@[simp] theorem setFlag_rxB0 (f : Flag) : (setFlag f s).rxB0 = s.rxB0 := rfl
@[simp] theorem setFlag_rxFn (f : Flag) : (setFlag f s).rxFn = s.rxFn := rfl
@[simp] theorem setFlag_rxChk (f : Flag) : (setFlag f s).rxChk = s.rxChk := rfl
@[simp] theorem setFlag_rxCnt (f : Flag) : (setFlag f s).rxCnt = s.rxCnt := rfl
@[simp] theorem setFlag_rxData (f : Flag) : (setFlag f s).rxData = s.rxData := rfl
@[simp] theorem setFlag_txBusy (f : Flag) : (setFlag f s).txBusy = s.txBusy := rfl
@[simp] theorem setFlag_txBuf (f : Flag) : (setFlag f s).txBuf = s.txBuf := rfl
@[simp] theorem setFlag_txLen (f : Flag) : (setFlag f s).txLen = s.txLen := rfl
@[simp] theorem setFlag_txIdx (f : Flag) : (setFlag f s).txIdx = s.txIdx := rfl
@[simp] theorem setFlag_rxArmed (f : Flag) : (setFlag f s).rxArmed = s.rxArmed := rfl
@[simp] theorem setFlag_rxBuf (f : Flag) : (setFlag f s).rxBuf = s.rxBuf := rfl
@[simp] theorem setFlag_scan (f : Flag) : (setFlag f s).scan = s.scan := rfl
@[simp] theorem setFlag_timer (f : Flag) : (setFlag f s).timer = s.timer := rfl
@[simp] theorem setFlag_linkOk (f : Flag) : (setFlag f s).linkOk = s.linkOk := rfl
@[simp] theorem setFlag_txStream (f : Flag) : (setFlag f s).txStream = s.txStream := rfl
@[simp] theorem setFlag_hostReads (f : Flag) : (setFlag f s).hostReads = s.hostReads := rfl
@[simp] theorem setFlag_pending (f : Flag) : (setFlag f s).pending = s.pending := rfl
@[simp] theorem setFlag_draws (f : Flag) : (setFlag f s).draws = s.draws := rfl

/-! ## returnToHost -/

@[simp] theorem returnToHost_ctrl (b : Byte) : (returnToHost b s).ctrl = s.ctrl := rfl
@[simp] theorem returnToHost_flags (b : Byte) : (returnToHost b s).flags = s.flags := rfl
@[simp] theorem returnToHost_cmdres (b : Byte) : (returnToHost b s).cmdres = s.cmdres := rfl
@[simp] theorem returnToHost_regTxCat (b : Byte) : (returnToHost b s).regTxCat = s.regTxCat := rfl
@[simp] theorem returnToHost_regTxFn (b : Byte) : (returnToHost b s).regTxFn = s.regTxFn := rfl
@[simp] theorem returnToHost_regTxLen (b : Byte) : (returnToHost b s).regTxLen = s.regTxLen := rfl
@[simp] theorem returnToHost_regTxData (b : Byte) : (returnToHost b s).regTxData = s.regTxData := rfl
@[simp] theorem returnToHost_resKind (b : Byte) : (returnToHost b s).resKind = s.resKind := rfl
@[simp] theorem returnToHost_rxB0 (b : Byte) : (returnToHost b s).rxB0 = s.rxB0 := rfl
@[simp] theorem returnToHost_rxFn (b : Byte) : (returnToHost b s).rxFn = s.rxFn := rfl
@[simp] theorem returnToHost_rxChk (b : Byte) : (returnToHost b s).rxChk = s.rxChk := rfl
@[simp] theorem returnToHost_rxCnt (b : Byte) : (returnToHost b s).rxCnt = s.rxCnt := rfl
@[simp] theorem returnToHost_rxData (b : Byte) : (returnToHost b s).rxData = s.rxData := rfl
@[simp] theorem returnToHost_txBusy (b : Byte) : (returnToHost b s).txBusy = s.txBusy := rfl
@[simp] theorem returnToHost_txBuf (b : Byte) : (returnToHost b s).txBuf = s.txBuf := rfl
@[simp] theorem returnToHost_txLen (b : Byte) : (returnToHost b s).txLen = s.txLen := rfl
@[simp] theorem returnToHost_txIdx (b : Byte) : (returnToHost b s).txIdx = s.txIdx := rfl
@[simp] theorem returnToHost_rxArmed (b : Byte) : (returnToHost b s).rxArmed = s.rxArmed := rfl
@[simp] theorem returnToHost_rxBuf (b : Byte) : (returnToHost b s).rxBuf = s.rxBuf := rfl
@[simp] theorem returnToHost_scan (b : Byte) : (returnToHost b s).scan = s.scan := rfl
@[simp] theorem returnToHost_timer (b : Byte) : (returnToHost b s).timer = s.timer := rfl
@[simp] theorem returnToHost_linkOk (b : Byte) : (returnToHost b s).linkOk = s.linkOk := rfl
@[simp] theorem returnToHost_txStream (b : Byte) : (returnToHost b s).txStream = s.txStream := rfl
@[simp] theorem returnToHost_hostReads (b : Byte) : (returnToHost b s).hostReads = s.hostReads ++ [b] := rfl
@[simp] theorem returnToHost_pending (b : Byte) : (returnToHost b s).pending = s.pending := rfl
@[simp] theorem returnToHost_draws (b : Byte) : (returnToHost b s).draws = s.draws := rfl

/-! ## latchFrame -/

@[simp] theorem latchFrame_ctrl (f : List Byte) : (latchFrame f s).ctrl = s.ctrl := rfl
@[simp] theorem latchFrame_flags (f : List Byte) : (latchFrame f s).flags = s.flags := rfl
@[simp] theorem latchFrame_cmdres (f : List Byte) : (latchFrame f s).cmdres = s.cmdres := rfl
@[simp] theorem latchFrame_regTxCat (f : List Byte) : (latchFrame f s).regTxCat = s.regTxCat := rfl
@[simp] theorem latchFrame_regTxFn (f : List Byte) : (latchFrame f s).regTxFn = s.regTxFn := rfl
@[simp] theorem latchFrame_regTxLen (f : List Byte) : (latchFrame f s).regTxLen = s.regTxLen := rfl
@[simp] theorem latchFrame_regTxData (f : List Byte) : (latchFrame f s).regTxData = s.regTxData := rfl
@[simp] theorem latchFrame_resKind (f : List Byte) : (latchFrame f s).resKind = s.resKind := rfl
@[simp] theorem latchFrame_rxB0 (f : List Byte) : (latchFrame f s).rxB0 = s.rxB0 := rfl
@[simp] theorem latchFrame_rxFn (f : List Byte) : (latchFrame f s).rxFn = s.rxFn := rfl
@[simp] theorem latchFrame_rxChk (f : List Byte) : (latchFrame f s).rxChk = s.rxChk := rfl
@[simp] theorem latchFrame_rxCnt (f : List Byte) : (latchFrame f s).rxCnt = s.rxCnt := rfl
@[simp] theorem latchFrame_rxData (f : List Byte) : (latchFrame f s).rxData = s.rxData := rfl
@[simp] theorem latchFrame_txBusy (f : List Byte) : (latchFrame f s).txBusy = true := rfl
@[simp] theorem latchFrame_txBuf (f : List Byte) : (latchFrame f s).txBuf = Vector.ofFn fun i => (f[i.val]?).getD s.txBuf[i.val] := rfl
@[simp] theorem latchFrame_txLen (f : List Byte) : (latchFrame f s).txLen = BitVec.ofNat 5 f.length := rfl
@[simp] theorem latchFrame_txIdx (f : List Byte) : (latchFrame f s).txIdx = 0#5 := rfl
@[simp] theorem latchFrame_rxArmed (f : List Byte) : (latchFrame f s).rxArmed = s.rxArmed := rfl
@[simp] theorem latchFrame_rxBuf (f : List Byte) : (latchFrame f s).rxBuf = s.rxBuf := rfl
@[simp] theorem latchFrame_scan (f : List Byte) : (latchFrame f s).scan = s.scan := rfl
@[simp] theorem latchFrame_timer (f : List Byte) : (latchFrame f s).timer = s.timer := rfl
@[simp] theorem latchFrame_linkOk (f : List Byte) : (latchFrame f s).linkOk = s.linkOk := rfl
@[simp] theorem latchFrame_txStream (f : List Byte) : (latchFrame f s).txStream = s.txStream := rfl
@[simp] theorem latchFrame_hostReads (f : List Byte) : (latchFrame f s).hostReads = s.hostReads := rfl
@[simp] theorem latchFrame_pending (f : List Byte) : (latchFrame f s).pending = s.pending := rfl
@[simp] theorem latchFrame_draws (f : List Byte) : (latchFrame f s).draws = s.draws := rfl

/-! ## stopTransmit -/

@[simp] theorem stopTransmit_ctrl : (stopTransmit s).ctrl = s.ctrl := rfl
@[simp] theorem stopTransmit_flags : (stopTransmit s).flags = s.flags := rfl
@[simp] theorem stopTransmit_cmdres : (stopTransmit s).cmdres = s.cmdres := rfl
@[simp] theorem stopTransmit_regTxCat : (stopTransmit s).regTxCat = s.regTxCat := rfl
@[simp] theorem stopTransmit_regTxFn : (stopTransmit s).regTxFn = s.regTxFn := rfl
@[simp] theorem stopTransmit_regTxLen : (stopTransmit s).regTxLen = s.regTxLen := rfl
@[simp] theorem stopTransmit_regTxData : (stopTransmit s).regTxData = s.regTxData := rfl
@[simp] theorem stopTransmit_resKind : (stopTransmit s).resKind = s.resKind := rfl
@[simp] theorem stopTransmit_rxB0 : (stopTransmit s).rxB0 = s.rxB0 := rfl
@[simp] theorem stopTransmit_rxFn : (stopTransmit s).rxFn = s.rxFn := rfl
@[simp] theorem stopTransmit_rxChk : (stopTransmit s).rxChk = s.rxChk := rfl
@[simp] theorem stopTransmit_rxCnt : (stopTransmit s).rxCnt = s.rxCnt := rfl
@[simp] theorem stopTransmit_rxData : (stopTransmit s).rxData = s.rxData := rfl
@[simp] theorem stopTransmit_txBusy : (stopTransmit s).txBusy = false := rfl
@[simp] theorem stopTransmit_txBuf : (stopTransmit s).txBuf = s.txBuf := rfl
@[simp] theorem stopTransmit_txLen : (stopTransmit s).txLen = s.txLen := rfl
@[simp] theorem stopTransmit_txIdx : (stopTransmit s).txIdx = 0#5 := rfl
@[simp] theorem stopTransmit_rxArmed : (stopTransmit s).rxArmed = s.rxArmed := rfl
@[simp] theorem stopTransmit_rxBuf : (stopTransmit s).rxBuf = s.rxBuf := rfl
@[simp] theorem stopTransmit_scan : (stopTransmit s).scan = s.scan := rfl
@[simp] theorem stopTransmit_timer : (stopTransmit s).timer = s.timer := rfl
@[simp] theorem stopTransmit_linkOk : (stopTransmit s).linkOk = s.linkOk := rfl
@[simp] theorem stopTransmit_txStream : (stopTransmit s).txStream = s.txStream := rfl
@[simp] theorem stopTransmit_hostReads : (stopTransmit s).hostReads = s.hostReads := rfl
@[simp] theorem stopTransmit_pending : (stopTransmit s).pending = s.pending := rfl
@[simp] theorem stopTransmit_draws : (stopTransmit s).draws = s.draws := rfl

/-! ## emitTx -/

@[simp] theorem emitTx_ctrl (b : Byte) : (emitTx b s).ctrl = s.ctrl := rfl
@[simp] theorem emitTx_flags (b : Byte) : (emitTx b s).flags = s.flags := rfl
@[simp] theorem emitTx_cmdres (b : Byte) : (emitTx b s).cmdres = s.cmdres := rfl
@[simp] theorem emitTx_regTxCat (b : Byte) : (emitTx b s).regTxCat = s.regTxCat := rfl
@[simp] theorem emitTx_regTxFn (b : Byte) : (emitTx b s).regTxFn = s.regTxFn := rfl
@[simp] theorem emitTx_regTxLen (b : Byte) : (emitTx b s).regTxLen = s.regTxLen := rfl
@[simp] theorem emitTx_regTxData (b : Byte) : (emitTx b s).regTxData = s.regTxData := rfl
@[simp] theorem emitTx_resKind (b : Byte) : (emitTx b s).resKind = s.resKind := rfl
@[simp] theorem emitTx_rxB0 (b : Byte) : (emitTx b s).rxB0 = s.rxB0 := rfl
@[simp] theorem emitTx_rxFn (b : Byte) : (emitTx b s).rxFn = s.rxFn := rfl
@[simp] theorem emitTx_rxChk (b : Byte) : (emitTx b s).rxChk = s.rxChk := rfl
@[simp] theorem emitTx_rxCnt (b : Byte) : (emitTx b s).rxCnt = s.rxCnt := rfl
@[simp] theorem emitTx_rxData (b : Byte) : (emitTx b s).rxData = s.rxData := rfl
@[simp] theorem emitTx_txBusy (b : Byte) : (emitTx b s).txBusy = s.txBusy := rfl
@[simp] theorem emitTx_txBuf (b : Byte) : (emitTx b s).txBuf = s.txBuf := rfl
@[simp] theorem emitTx_txLen (b : Byte) : (emitTx b s).txLen = s.txLen := rfl
@[simp] theorem emitTx_txIdx (b : Byte) : (emitTx b s).txIdx = s.txIdx := rfl
@[simp] theorem emitTx_rxArmed (b : Byte) : (emitTx b s).rxArmed = s.rxArmed := rfl
@[simp] theorem emitTx_rxBuf (b : Byte) : (emitTx b s).rxBuf = s.rxBuf := rfl
@[simp] theorem emitTx_scan (b : Byte) : (emitTx b s).scan = s.scan := rfl
@[simp] theorem emitTx_timer (b : Byte) : (emitTx b s).timer = s.timer := rfl
@[simp] theorem emitTx_linkOk (b : Byte) : (emitTx b s).linkOk = s.linkOk := rfl
@[simp] theorem emitTx_txStream (b : Byte) : (emitTx b s).txStream = s.txStream ++ [b] := rfl
@[simp] theorem emitTx_hostReads (b : Byte) : (emitTx b s).hostReads = s.hostReads := rfl
@[simp] theorem emitTx_pending (b : Byte) : (emitTx b s).pending = s.pending := rfl
@[simp] theorem emitTx_draws (b : Byte) : (emitTx b s).draws = s.draws := rfl

/-! ## arm -/

@[simp] theorem arm_ctrl : (arm s).ctrl = s.ctrl := rfl
@[simp] theorem arm_flags : (arm s).flags = s.flags := rfl
@[simp] theorem arm_cmdres : (arm s).cmdres = s.cmdres := rfl
@[simp] theorem arm_regTxCat : (arm s).regTxCat = s.regTxCat := rfl
@[simp] theorem arm_regTxFn : (arm s).regTxFn = s.regTxFn := rfl
@[simp] theorem arm_regTxLen : (arm s).regTxLen = s.regTxLen := rfl
@[simp] theorem arm_regTxData : (arm s).regTxData = s.regTxData := rfl
@[simp] theorem arm_resKind : (arm s).resKind = s.resKind := rfl
@[simp] theorem arm_rxB0 : (arm s).rxB0 = s.rxB0 := rfl
@[simp] theorem arm_rxFn : (arm s).rxFn = s.rxFn := rfl
@[simp] theorem arm_rxChk : (arm s).rxChk = s.rxChk := rfl
@[simp] theorem arm_rxCnt : (arm s).rxCnt = s.rxCnt := rfl
@[simp] theorem arm_rxData : (arm s).rxData = s.rxData := rfl
@[simp] theorem arm_txBusy : (arm s).txBusy = s.txBusy := rfl
@[simp] theorem arm_txBuf : (arm s).txBuf = s.txBuf := rfl
@[simp] theorem arm_txLen : (arm s).txLen = s.txLen := rfl
@[simp] theorem arm_txIdx : (arm s).txIdx = s.txIdx := rfl
@[simp] theorem arm_rxArmed : (arm s).rxArmed = true := rfl
@[simp] theorem arm_rxBuf : (arm s).rxBuf = [] := rfl
@[simp] theorem arm_scan : (arm s).scan = false := rfl
@[simp] theorem arm_timer : (arm s).timer = 0 := rfl
@[simp] theorem arm_linkOk : (arm s).linkOk = s.linkOk := rfl
@[simp] theorem arm_txStream : (arm s).txStream = s.txStream := rfl
@[simp] theorem arm_hostReads : (arm s).hostReads = s.hostReads := rfl
@[simp] theorem arm_pending : (arm s).pending = s.pending := rfl
@[simp] theorem arm_draws : (arm s).draws = s.draws := rfl

/-! ## finish -/

@[simp] theorem finish_ctrl (k : Terminal) : (finish k s).ctrl = s.ctrl := rfl
@[simp] theorem finish_flags (k : Terminal) : (finish k s).flags = overrunFlags s := rfl
@[simp] theorem finish_cmdres (k : Terminal) : (finish k s).cmdres = s.cmdres := rfl
@[simp] theorem finish_regTxCat (k : Terminal) : (finish k s).regTxCat = s.regTxCat := rfl
@[simp] theorem finish_regTxFn (k : Terminal) : (finish k s).regTxFn = s.regTxFn := rfl
@[simp] theorem finish_regTxLen (k : Terminal) : (finish k s).regTxLen = s.regTxLen := rfl
@[simp] theorem finish_regTxData (k : Terminal) : (finish k s).regTxData = s.regTxData := rfl
@[simp] theorem finish_resKind (k : Terminal) : (finish k s).resKind = resultCode k := rfl
@[simp] theorem finish_rxB0 (k : Terminal) : (finish k s).rxB0 = resultB0 k := rfl
@[simp] theorem finish_rxFn (k : Terminal) : (finish k s).rxFn = resultFn k := rfl
@[simp] theorem finish_rxChk (k : Terminal) : (finish k s).rxChk = resultChk k := rfl
@[simp] theorem finish_rxCnt (k : Terminal) : (finish k s).rxCnt = resultCnt k := rfl
@[simp] theorem finish_rxData (k : Terminal) : (finish k s).rxData = resultData k := rfl
@[simp] theorem finish_txBusy (k : Terminal) : (finish k s).txBusy = s.txBusy := rfl
@[simp] theorem finish_txBuf (k : Terminal) : (finish k s).txBuf = s.txBuf := rfl
@[simp] theorem finish_txLen (k : Terminal) : (finish k s).txLen = s.txLen := rfl
@[simp] theorem finish_txIdx (k : Terminal) : (finish k s).txIdx = s.txIdx := rfl
@[simp] theorem finish_rxArmed (k : Terminal) : (finish k s).rxArmed = false := rfl
@[simp] theorem finish_rxBuf (k : Terminal) : (finish k s).rxBuf = [] := rfl
@[simp] theorem finish_scan (k : Terminal) : (finish k s).scan = false := rfl
@[simp] theorem finish_timer (k : Terminal) : (finish k s).timer = 0 := rfl
@[simp] theorem finish_linkOk (k : Terminal) : (finish k s).linkOk = resultLink k s.linkOk := rfl
@[simp] theorem finish_txStream (k : Terminal) : (finish k s).txStream = s.txStream := rfl
@[simp] theorem finish_hostReads (k : Terminal) : (finish k s).hostReads = s.hostReads := rfl
@[simp] theorem finish_pending (k : Terminal) : (finish k s).pending = s.pending := rfl
@[simp] theorem finish_draws (k : Terminal) : (finish k s).draws = s.draws := rfl

/-! ## retireResult -/

@[simp] theorem retireResult_ctrl : (retireResult s).ctrl = s.ctrl := rfl
@[simp] theorem retireResult_flags : (retireResult s).flags = s.flags := rfl
@[simp] theorem retireResult_cmdres : (retireResult s).cmdres = s.cmdres := rfl
@[simp] theorem retireResult_regTxCat : (retireResult s).regTxCat = s.regTxCat := rfl
@[simp] theorem retireResult_regTxFn : (retireResult s).regTxFn = s.regTxFn := rfl
@[simp] theorem retireResult_regTxLen : (retireResult s).regTxLen = s.regTxLen := rfl
@[simp] theorem retireResult_regTxData : (retireResult s).regTxData = s.regTxData := rfl
@[simp] theorem retireResult_resKind : (retireResult s).resKind = 0x00#8 := rfl
@[simp] theorem retireResult_rxB0 : (retireResult s).rxB0 = 0x00#8 := rfl
@[simp] theorem retireResult_rxFn : (retireResult s).rxFn = 0x00#8 := rfl
@[simp] theorem retireResult_rxChk : (retireResult s).rxChk = 0x00#8 := rfl
@[simp] theorem retireResult_rxCnt : (retireResult s).rxCnt = 0x00#8 := rfl
@[simp] theorem retireResult_rxData : (retireResult s).rxData = Vector.replicate 15 0x00#8 := rfl
@[simp] theorem retireResult_txBusy : (retireResult s).txBusy = s.txBusy := rfl
@[simp] theorem retireResult_txBuf : (retireResult s).txBuf = s.txBuf := rfl
@[simp] theorem retireResult_txLen : (retireResult s).txLen = s.txLen := rfl
@[simp] theorem retireResult_txIdx : (retireResult s).txIdx = s.txIdx := rfl
@[simp] theorem retireResult_rxArmed : (retireResult s).rxArmed = s.rxArmed := rfl
@[simp] theorem retireResult_rxBuf : (retireResult s).rxBuf = s.rxBuf := rfl
@[simp] theorem retireResult_scan : (retireResult s).scan = s.scan := rfl
@[simp] theorem retireResult_timer : (retireResult s).timer = s.timer := rfl
@[simp] theorem retireResult_linkOk : (retireResult s).linkOk = s.linkOk := rfl
@[simp] theorem retireResult_txStream : (retireResult s).txStream = s.txStream := rfl
@[simp] theorem retireResult_hostReads : (retireResult s).hostReads = s.hostReads := rfl
@[simp] theorem retireResult_pending : (retireResult s).pending = s.pending := rfl
@[simp] theorem retireResult_draws : (retireResult s).draws = s.draws := rfl

/-! ## holdOffer -/

@[simp] theorem holdOffer_ctrl (r : RawStep) : (holdOffer r s).ctrl = s.ctrl := rfl
@[simp] theorem holdOffer_flags (r : RawStep) : (holdOffer r s).flags = s.flags := rfl
@[simp] theorem holdOffer_cmdres (r : RawStep) : (holdOffer r s).cmdres = s.cmdres := rfl
@[simp] theorem holdOffer_regTxCat (r : RawStep) : (holdOffer r s).regTxCat = s.regTxCat := rfl
@[simp] theorem holdOffer_regTxFn (r : RawStep) : (holdOffer r s).regTxFn = s.regTxFn := rfl
@[simp] theorem holdOffer_regTxLen (r : RawStep) : (holdOffer r s).regTxLen = s.regTxLen := rfl
@[simp] theorem holdOffer_regTxData (r : RawStep) : (holdOffer r s).regTxData = s.regTxData := rfl
@[simp] theorem holdOffer_resKind (r : RawStep) : (holdOffer r s).resKind = s.resKind := rfl
@[simp] theorem holdOffer_rxB0 (r : RawStep) : (holdOffer r s).rxB0 = s.rxB0 := rfl
@[simp] theorem holdOffer_rxFn (r : RawStep) : (holdOffer r s).rxFn = s.rxFn := rfl
@[simp] theorem holdOffer_rxChk (r : RawStep) : (holdOffer r s).rxChk = s.rxChk := rfl
@[simp] theorem holdOffer_rxCnt (r : RawStep) : (holdOffer r s).rxCnt = s.rxCnt := rfl
@[simp] theorem holdOffer_rxData (r : RawStep) : (holdOffer r s).rxData = s.rxData := rfl
@[simp] theorem holdOffer_txBusy (r : RawStep) : (holdOffer r s).txBusy = s.txBusy := rfl
@[simp] theorem holdOffer_txBuf (r : RawStep) : (holdOffer r s).txBuf = s.txBuf := rfl
@[simp] theorem holdOffer_txLen (r : RawStep) : (holdOffer r s).txLen = s.txLen := rfl
@[simp] theorem holdOffer_txIdx (r : RawStep) : (holdOffer r s).txIdx = s.txIdx := rfl
@[simp] theorem holdOffer_rxArmed (r : RawStep) : (holdOffer r s).rxArmed = s.rxArmed := rfl
@[simp] theorem holdOffer_rxBuf (r : RawStep) : (holdOffer r s).rxBuf = s.rxBuf := rfl
@[simp] theorem holdOffer_scan (r : RawStep) : (holdOffer r s).scan = s.scan := rfl
@[simp] theorem holdOffer_timer (r : RawStep) : (holdOffer r s).timer = s.timer := rfl
@[simp] theorem holdOffer_linkOk (r : RawStep) : (holdOffer r s).linkOk = s.linkOk := rfl
@[simp] theorem holdOffer_txStream (r : RawStep) : (holdOffer r s).txStream = s.txStream := rfl
@[simp] theorem holdOffer_hostReads (r : RawStep) : (holdOffer r s).hostReads = s.hostReads := rfl
@[simp] theorem holdOffer_pending (r : RawStep) : (holdOffer r s).pending = r :: s.pending := rfl
@[simp] theorem holdOffer_draws (r : RawStep) : (holdOffer r s).draws = s.draws := rfl

/-! ## resetBlock -/

@[simp] theorem resetBlock_ctrl : (resetBlock s).ctrl = State.reset.ctrl := rfl
@[simp] theorem resetBlock_flags : (resetBlock s).flags = State.reset.flags := rfl
@[simp] theorem resetBlock_cmdres : (resetBlock s).cmdres = State.reset.cmdres := rfl
@[simp] theorem resetBlock_regTxCat : (resetBlock s).regTxCat = State.reset.regTxCat := rfl
@[simp] theorem resetBlock_regTxFn : (resetBlock s).regTxFn = State.reset.regTxFn := rfl
@[simp] theorem resetBlock_regTxLen : (resetBlock s).regTxLen = State.reset.regTxLen := rfl
@[simp] theorem resetBlock_regTxData : (resetBlock s).regTxData = State.reset.regTxData := rfl
@[simp] theorem resetBlock_resKind : (resetBlock s).resKind = State.reset.resKind := rfl
@[simp] theorem resetBlock_rxB0 : (resetBlock s).rxB0 = State.reset.rxB0 := rfl
@[simp] theorem resetBlock_rxFn : (resetBlock s).rxFn = State.reset.rxFn := rfl
@[simp] theorem resetBlock_rxChk : (resetBlock s).rxChk = State.reset.rxChk := rfl
@[simp] theorem resetBlock_rxCnt : (resetBlock s).rxCnt = State.reset.rxCnt := rfl
@[simp] theorem resetBlock_rxData : (resetBlock s).rxData = State.reset.rxData := rfl
@[simp] theorem resetBlock_txBusy : (resetBlock s).txBusy = State.reset.txBusy := rfl
@[simp] theorem resetBlock_txBuf : (resetBlock s).txBuf = State.reset.txBuf := rfl
@[simp] theorem resetBlock_txLen : (resetBlock s).txLen = State.reset.txLen := rfl
@[simp] theorem resetBlock_txIdx : (resetBlock s).txIdx = State.reset.txIdx := rfl
@[simp] theorem resetBlock_rxArmed : (resetBlock s).rxArmed = State.reset.rxArmed := rfl
@[simp] theorem resetBlock_rxBuf : (resetBlock s).rxBuf = State.reset.rxBuf := rfl
@[simp] theorem resetBlock_scan : (resetBlock s).scan = State.reset.scan := rfl
@[simp] theorem resetBlock_timer : (resetBlock s).timer = State.reset.timer := rfl
@[simp] theorem resetBlock_linkOk : (resetBlock s).linkOk = State.reset.linkOk := rfl
@[simp] theorem resetBlock_txStream : (resetBlock s).txStream = s.txStream := rfl
@[simp] theorem resetBlock_hostReads : (resetBlock s).hostReads = s.hostReads := rfl
@[simp] theorem resetBlock_pending : (resetBlock s).pending = s.pending := rfl
@[simp] theorem resetBlock_draws : (resetBlock s).draws = s.draws := rfl

end Sys2Proof.Machine
end

