-- ==== Sys2Proof/Laws/Ops.lean ====
section
/-! SUPPORT. For each shared operation, everything it can do, said once: later proofs cite these and unfold nothing. -/

namespace Sys2Proof.Machine

open Sys2Proof

/-- R6: every value the parameters can take meets their bound. -/
theorem lt_two_pow_tw : Config.tResp - 1 < 2 ^ Config.tw := by
  have h := Nat.lt_size_self Config.ticksBeforeDeadline
  have : Config.tResp - 1 = Config.ticksBeforeDeadline := rfl
  rw [this]
  exact lt_of_lt_of_le h (Nat.pow_le_pow_right (by decide) (by simp [Config.tw]))

theorem exchangeOpen_eq_false (s : State) :
    exchangeOpen s = false ↔ s.txBusy = false ∧ s.rxArmed = false := by
  simp [exchangeOpen]

theorem advanceTx_cases (s : State) :
    (s.txIdx.toNat + 1 = s.txLen.toNat ∧ advanceTx s = arm (stopTransmit s)) ∨
    (s.txIdx.toNat + 1 ≠ s.txLen.toNat ∧ advanceTx s = { s with txIdx := s.txIdx + 1#5 }) := by
  by_cases h : s.txIdx.toNat + 1 = s.txLen.toNat
  · exact .inl ⟨h, by simp [advanceTx, h]⟩
  · exact .inr ⟨h, by simp [advanceTx, h]⟩

theorem resynchronise_cases (s : State) :
    (s.ctrl.getLsbD 0 = true ∧ resynchronise s = { s with rxBuf := [], scan := false }) ∨
    (s.ctrl.getLsbD 0 = false ∧
      resynchronise s = { s with rxBuf := s.rxBuf.tail, scan := !s.rxBuf.tail.isEmpty }) := by
  cases h : s.ctrl.getLsbD 0
  · exact .inr ⟨rfl, by simp only [resynchronise, dropAll, h]; rfl⟩
  · exact .inl ⟨rfl, by simp only [resynchronise, dropAll, h]; rfl⟩

theorem noteResidual_cases (k : Nat) (s : State) :
    (k < s.rxBuf.length ∧ noteResidual k s = setFlag .stray s) ∨
    (s.rxBuf.length ≤ k ∧ noteResidual k s = s) := by
  by_cases h : k < s.rxBuf.length
  · exact .inl ⟨h, by simp [noteResidual, h]⟩
  · exact .inr ⟨by omega, by simp [noteResidual, h]⟩

/-- R170: the three outcomes of EVAL. -/
theorem evalBuffer_cases (s : State) :
    (tryDecode s.rxBuf = .incomplete ∧ evalBuffer s = { s with scan := false }) ∨
    (∃ fr k, tryDecode s.rxBuf = .decoded fr k ∧ evalBuffer s = finish (.decoded fr) (noteResidual k s)) ∨
    (tryDecode s.rxBuf = .invalid ∧ evalBuffer s = resynchronise (setFlag .inv s)) := by
  cases h : tryDecode s.rxBuf with
  | incomplete => exact .inl ⟨rfl, by simp only [evalBuffer, h]⟩
  | decoded fr k => exact .inr (.inl ⟨fr, k, rfl, by simp only [evalBuffer, h]⟩)
  | invalid => exact .inr (.inr ⟨rfl, by simp only [evalBuffer, h]⟩)

theorem receiveByte_cases (b : Byte) (s : State) :
    (s.rxArmed = false ∧ receiveByte b s = setFlag .stray s) ∨
    (s.rxArmed = true ∧ receiveByte b s = evalBuffer { s with rxBuf := s.rxBuf ++ [b] }) := by
  cases h : s.rxArmed
  · exact .inl ⟨rfl, by simp [receiveByte, h]⟩
  · exact .inr ⟨rfl, by simp [receiveByte, h]⟩

theorem tickTimer_cases (tResp tw : Nat) (s : State) :
    (s.rxArmed = false ∧ tickTimer tResp tw s = s) ∨
    (s.rxArmed = true ∧ s.timer + 1 = tResp ∧ tickTimer tResp tw s = finish .timeout s) ∨
    (s.rxArmed = true ∧ s.timer + 1 ≠ tResp ∧
      tickTimer tResp tw s = { s with timer := (s.timer + 1) % 2 ^ tw }) := by
  cases h : s.rxArmed
  · exact .inl ⟨rfl, by simp [tickTimer, h]⟩
  · by_cases h2 : s.timer + 1 = tResp
    · exact .inr (.inl ⟨rfl, h2, by simp [tickTimer, h, h2]⟩)
    · exact .inr (.inr ⟨rfl, h2, by simp [tickTimer, h, h2]⟩)

theorem stagedOperands_length {s : State} (h : s.regTxLen.toNat ≤ 15) :
    (stagedOperands s).length = s.regTxLen.toNat := by
  simp [stagedOperands, h]

/-- R147: the three things SEND can do. -/
theorem execSend_cases (s : State) :
    (exchangeOpen s = true ∧ execSend s = .next (setFlag .rej (reportCmd .busy s))) ∨
    (exchangeOpen s = false ∧ 15 < s.regTxLen.toNat ∧
      execSend s = .next (setFlag .operr (reportCmd .invalidOperand s))) ∨
    (exchangeOpen s = false ∧ s.regTxLen.toNat ≤ 15 ∧
      execSend s = .next (reportCmd .ok (latchFrame (frameBytes s.regTxCat s.regTxFn (stagedOperands s)) s))) := by
  cases h : exchangeOpen s
  · by_cases h2 : s.regTxLen.toNat ≤ 15
    · have h3 : ¬ s.regTxLen.toNat > Config.maxOperands := by simp only [Config.maxOperands]; omega
      have h4 : (stagedOperands s).length ≤ 15 := by rw [stagedOperands_length h2]; exact h2
      exact .inr (.inr ⟨rfl, h2, by simp [execSend, h, h3, encodeFrame_ok h4]⟩)
    · have h3 : s.regTxLen.toNat > Config.maxOperands := by simp only [Config.maxOperands]; omega
      exact .inr (.inl ⟨rfl, by omega, by simp [execSend, h, h3]⟩)
  · exact .inl ⟨rfl, by simp [execSend, h]⟩

/-- The step's source: the first listed offer, or a free draw. -/
theorem nextOffer_cases (s : State) :
    (∃ r rest, s.pending = r :: rest ∧ nextOffer s = (r, { s with pending := rest })) ∨
    (s.pending = [] ∧ nextOffer s = (Config.agentStep s.draws, { s with draws := s.draws + 1 })) := by
  cases h : s.pending with
  | nil => exact .inr ⟨rfl, by simp only [nextOffer, h]⟩
  | cons r rest => exact .inl ⟨r, rest, rfl, by simp only [nextOffer, h]⟩

theorem enabled_ite {c : Prop} [Decidable c] {i j : Instr} {s : State} (hi : enabled i s = true)
    (hj : enabled j s = true) : enabled (if c then i else j) s = true := by
  split
  · exact hi
  · exact hj

theorem enabled_decodeCommand (d : Byte) (s : State) : enabled (decodeCommand d) s = true :=
  enabled_ite rfl (enabled_ite rfl (enabled_ite rfl rfl))

theorem enabled_decodeWrite (a : HostAddr) (d : Byte) (s : State) : enabled (decodeWrite a d) s = true :=
  enabled_ite rfl <| enabled_ite rfl <| enabled_ite rfl <| enabled_ite (enabled_decodeCommand d s) <|
    enabled_ite rfl <| enabled_ite rfl <| enabled_ite rfl <| enabled_ite rfl <| enabled_ite rfl <|
    enabled_ite rfl <| enabled_ite rfl rfl

/-- Every host operation is enabled in every state (42_host_ops.md). -/
theorem enabled_host (w : HostWord) (s : State) : enabled (decode (.host w)) s = true :=
  enabled_ite (enabled_decodeWrite (fieldA w) (fieldD w) s) rfl

/-- What becomes of an offer: it is taken, or a held byte lets the scanner move, or it does not happen. -/
theorem resolveOffer_cases (r : RawStep) (s : State) :
    (enabled (decode r) s = true ∧ resolveOffer r s = (some (decode r), s)) ∨
    (∃ b, r = .rxPort b ∧ s.scan = true ∧ resolveOffer r s = (some .scan, holdOffer r s)) ∨
    (enabled (decode r) s = false ∧ (r = .txPort ∨ r = .internal) ∧ resolveOffer r s = (none, s)) := by
  cases h : enabled (decode r) s
  · cases r with
    | host w => simp [enabled_host] at h
    | rxPort b =>
      refine .inr (.inl ⟨b, rfl, ?_, by simp [resolveOffer, h]⟩)
      simpa [decode, enabled, rxReady] using h
    | txPort => exact .inr (.inr ⟨rfl, .inl rfl, by simp [resolveOffer, h]⟩)
    | internal => exact .inr (.inr ⟨rfl, .inr rfl, by simp [resolveOffer, h]⟩)
    | timeBase => simp [decode, enabled] at h
    | reset => simp [decode, enabled] at h
  · exact .inl ⟨rfl, by simp [resolveOffer, h]⟩

end Sys2Proof.Machine
end

