-- ==== Sys2Proof/Laws/PerInstr.lean ====
section
/-! SUPPORT. Facts about every instruction as text, one lemma per constructor. -/

namespace Sys2Proof.Laws.EncodedFormat

open Sys2Proof

/-- R79: an instruction is offered in the format the opcode table gives its row. -/
def Statement (i : Instr) : Prop := (encode i).format = i.format

/-- A host write's format. -/
theorem format_hostWriteWord (a : HostAddr) (d : Byte) : (RawStep.host (hostWriteWord a d)).format = .hostWrite := by
  simp [RawStep.format, fieldW_hostWriteWord]

theorem rd (a : HostAddr) : Statement (.rd a) := by
  simp [Statement, encode, Instr.format, RawStep.format, fieldW_hostReadWord]

theorem wrCtrl (d : Byte) : Statement (.wrCtrl d) := format_hostWriteWord _ _
theorem wrFlags (d : Byte) : Statement (.wrFlags d) := format_hostWriteWord _ _
theorem send : Statement .send := format_hostWriteWord _ _
theorem abort : Statement .abort := format_hostWriteWord _ _
theorem ack : Statement .ack := format_hostWriteWord _ _
theorem cmdRsvd (d : Byte) : Statement (.cmdRsvd d) := format_hostWriteWord _ _
theorem wrTxCat (d : Byte) : Statement (.wrTxCat d) := format_hostWriteWord _ _
theorem wrTxFn (d : Byte) : Statement (.wrTxFn d) := format_hostWriteWord _ _
theorem wrTxLen (d : Byte) : Statement (.wrTxLen d) := format_hostWriteWord _ _
theorem wrTxData (i : BitVec 4) (d : Byte) : Statement (.wrTxData i d) := format_hostWriteWord _ _
theorem wrIgnoredStatus (d : Byte) : Statement (.wrIgnoredStatus d) := format_hostWriteWord _ _
theorem wrIgnoredCmdres (d : Byte) : Statement (.wrIgnoredCmdres d) := format_hostWriteWord _ _
theorem wrIgnoredResult (a : BitVec 3) (d : Byte) : Statement (.wrIgnoredResult a d) := format_hostWriteWord _ _
theorem wrIgnoredGap (d : Byte) : Statement (.wrIgnoredGap d) := format_hostWriteWord _ _
theorem wrIgnoredUpper (a : BitVec 5) (d : Byte) : Statement (.wrIgnoredUpper a d) := format_hostWriteWord _ _
theorem txPop : Statement .txPop := rfl
theorem rxByte (b : Byte) : Statement (.rxByte b) := rfl
theorem scan : Statement .scan := rfl
theorem tick : Statement .tick := rfl
theorem reset : Statement .reset := rfl

end Sys2Proof.Laws.EncodedFormat
end

