-- ==== Sys2Proof/Tests/Slice0.lean ====
section
/-! SUPPORT. The model's own tests: expected values from the spec's examples and vectors (95_test_vectors.md, and the
example lines of the rules), and, for each statement with hypotheses, a state and operands that meet them. -/

namespace Sys2Proof.Tests

open Sys2Proof Sys2Proof.Machine

/-! ## Well-formedness -/

theorem test_wf_refuses_rsvd_send : ¬ (Instr.cmdRsvd 0x01#8).WellFormed := by decide
theorem test_wf_refuses_rsvd_abort : ¬ (Instr.cmdRsvd 0x02#8).WellFormed := by decide
theorem test_wf_refuses_rsvd_ack : ¬ (Instr.cmdRsvd 0x03#8).WellFormed := by decide
theorem test_wf_refuses_operand_15 : ¬ (Instr.wrTxData 15#4 0x00#8).WellFormed := by decide
theorem test_wf_accepts_edges :
    (Instr.cmdRsvd 0x00#8).WellFormed ∧ (Instr.cmdRsvd 0x04#8).WellFormed ∧ (Instr.wrTxData 14#4 0xFF#8).WellFormed := by
  decide

/-! ## Decoding: words written out from R80 and from the vectors -/

theorem test_decode_rd : decode (.host 0b0_111111_00000000#15) = .rd 0x3F#6 := by decide
theorem test_decode_rd_ignores_data : decode (.host 0b0_000001_10100101#15) = .rd 0x01#6 := by decide
theorem test_decode_wrCtrl : decode (.host 0b1_000000_11111111#15) = .wrCtrl 0xFF#8 := by decide
theorem test_decode_wrFlags : decode (.host 0b1_000010_00000001#15) = .wrFlags 0x01#8 := by decide
theorem test_decode_send : decode (.host 0b1_000011_00000001#15) = .send := by decide
theorem test_decode_abort : decode (.host 0b1_000011_00000010#15) = .abort := by decide
theorem test_decode_ack : decode (.host 0b1_000011_00000011#15) = .ack := by decide
theorem test_decode_cmdRsvd : decode (.host 0b1_000011_00000000#15) = .cmdRsvd 0x00#8 := by decide
theorem test_decode_wrTxCat : decode (.host 0b1_000101_00100000#15) = .wrTxCat 0x20#8 := by decide
theorem test_decode_wrTxFn : decode (.host 0b1_000110_00010001#15) = .wrTxFn 0x11#8 := by decide
theorem test_decode_wrTxLen : decode (.host 0b1_000111_00010000#15) = .wrTxLen 0x10#8 := by decide
theorem test_decode_wrTxData : decode (.host 0b1_011110_01010101#15) = .wrTxData 14#4 0x55#8 := by decide
theorem test_decode_ignored_status : decode (.host 0b1_000001_00000111#15) = .wrIgnoredStatus 0x07#8 := by decide
theorem test_decode_ignored_cmdres : decode (.host 0b1_000100_00000111#15) = .wrIgnoredCmdres 0x07#8 := by decide
theorem test_decode_ignored_result : decode (.host 0b1_001101_00000111#15) = .wrIgnoredResult 5#3 0x07#8 := by decide
theorem test_decode_ignored_gap : decode (.host 0b1_011111_00010010#15) = .wrIgnoredGap 0x12#8 := by decide
theorem test_decode_ignored_upper : decode (.host 0b1_101111_00010010#15) = .wrIgnoredUpper 15#5 0x12#8 := by decide
theorem test_decode_txPop : decode .txPort = .txPop := by decide
theorem test_decode_rxByte : decode (.rxPort 0b10101010#8) = .rxByte 0xAA#8 := by decide
theorem test_decode_scan : decode .internal = .scan := by decide
theorem test_decode_tick : decode .timeBase = .tick := by decide
theorem test_decode_reset : decode .reset = .reset := by decide
/-- R145's example word and R146's. -/
theorem test_encode_examples :
    encode (.wrTxData 0#4 0x55#8) = .host 0x5055#15 ∧ encode (.wrIgnoredResult 0#3 0x00#8) = .host 0x4800#15 ∧
      encode (.rd 0x3F#6) = .host 0x3F00#15 := by decide
theorem test_table_words :
    decodeTableWord 16 0x4303 = some .ack ∧ decodeTableWord 8 0x77 = some (.rxByte 0x77#8) ∧
      decodeTableWord 16 0x8000 = none ∧ decodeTableWord 0 0 = none := by decide

/-! ## Codec: the vectors of 95_test_vectors.md 2.1 and 2.2 -/

theorem test_sum8_vectors :
    sum8 [0xFF#8, 0xFF#8] = 0xFE#8 ∧ sum8 [0x12#8, 0x11#8, 0x02#8, 0x85#8] = 0xAA#8 := by decide
theorem test_byte0_vectors : byte0 0x2F#8 0 = 0x20#8 ∧ byte0 0xF0#8 15 = 0xFF#8 ∧ byte0 0x10#8 2 = 0x12#8 := by decide
theorem test_encodeFrame_device_type :
    encodeFrame 0x10#8 0x11#8 [0x02#8, 0x85#8] = .ok [0x12#8, 0x11#8, 0x02#8, 0x85#8, 0xAA#8] := by decide
theorem test_encodeFrame_largest :
    encodeFrame 0xF0#8 0xFF#8 (List.replicate 15 0xFF#8) = .ok (List.replicate 17 0xFF#8 ++ [0xEF#8]) := by decide
theorem test_encodeFrame_refuses_16 :
    encodeFrame 0x00#8 0x00#8 (List.replicate 16 0x00#8) = .error .invalidOperand := by decide
theorem test_tryDecode_trailing :
    tryDecode [0x20#8, 0x00#8, 0x20#8, 0xFF#8] = .decoded ⟨0x20#8, 0x20#8, 0#4, 0x00#8, [], 0x20#8⟩ 3 := by decide
theorem test_tryDecode_device_type :
    tryDecode [0x12#8, 0x11#8, 0x02#8, 0x85#8, 0xAA#8] =
      .decoded ⟨0x12#8, 0x10#8, 2#4, 0x11#8, [0x02#8, 0x85#8], 0xAA#8⟩ 5 := by decide
theorem test_tryDecode_invalid : tryDecode [0x12#8, 0x11#8, 0x02#8, 0x85#8, 0xAB#8] = .invalid := by decide
theorem test_tryDecode_incomplete : tryDecode [0x23#8, 0x00#8, 0x20#8, 0x41#8] = .incomplete := by decide

/-! ## States to test on -/

/-- A frame `f` in transmission, byte `idx` next. -/
def sending (f : List Byte) (idx : Nat) : State :=
  { latchFrame f State.reset with txIdx := BitVec.ofNat 5 idx }

/-- An open attempt holding the bytes `buf`. -/
def armed (buf : List Byte) : State := { State.reset with rxArmed := true, rxBuf := buf }

/-- The same with a scan due. -/
def scanning (buf : List Byte) : State := { armed buf with scan := true }

/-- A result of kind `k` waiting. -/
def waiting (k : Byte) : State := { State.reset with resKind := k }

/-- One field of the state an instruction leads to. -/
def after {α : Type} (i : Instr) (s : State) (f : State → α) : Option α := (nextOf (exec i s)).map f

/-! ## One step of each instruction -/

/-- R140's example. -/
theorem test_rd_status_after_reset : after (.rd 0x01#6) State.reset State.hostReads = some [0x00#8] := by decide
/-- P2 step 18: RX_B0 and its place in the map. -/
theorem test_rd_result_map :
    after (.rd 0x2E#6) { State.reset with rxData := Vector.ofFn fun i => BitVec.ofNat 8 i.val } State.hostReads
      = some [0x0E#8] := by decide
/-- R142's example. -/
theorem test_wrCtrl_drops_reserved_bits : after (.wrCtrl 0xFF#8) State.reset (fun t => memRead t 0x00#6) = some 0x03#8 := by
  decide
/-- R143's example. -/
theorem test_wrFlags_clears_one : after (.wrFlags 0x01#8) { State.reset with flags := 0x05#8 } State.flags = some 0x04#8 := by
  decide
/-- R147's example. -/
theorem test_send_latches :
    after .send { State.reset with regTxCat := 0x20#8 }
      (fun t => (t.txBuf.toList.take 3, t.txLen, status t, t.cmdres)) =
      some ([0x20#8, 0x00#8, 0x20#8], 3#5, 0x01#8, 0x00#8) := by decide
/-- H1: BUSY wins over INVALID_OPERAND. -/
theorem test_send_busy_first :
    after .send { sending [0x00#8, 0x00#8, 0x00#8] 0 with regTxLen := 0x10#8 } (fun t => (t.cmdres, t.flags, status t)) =
      some (0x02#8, 0x08#8, 0x01#8) := by decide
/-- H4. -/
theorem test_abort_in_transmission :
    after .abort (sending [0x00#8, 0x00#8, 0x00#8] 1) (fun t => (t.resKind, status t)) = some (0x03#8, 0x10#8) := by decide
/-- P3 step 22: CANCELLED overwrites TIMEOUT. -/
theorem test_abort_overrun :
    after .abort { armed [] with resKind := 0x02#8, flags := 0x3A#8 } (fun t => (t.resKind, t.flags)) =
      some (0x03#8, 0x3E#8) := by decide
/-- H10: ACK drops `irq`. -/
theorem test_ack_drops_irq :
    after .ack { waiting 0x01#8 with ctrl := 0x02#8, linkOk := true, rxCnt := 0x03#8 }
      (fun t => (status t, irq t, t.rxCnt)) = some (0x08#8, false, 0x00#8) := by decide
/-- H3. -/
theorem test_cmdRsvd_reports : after (.cmdRsvd 0x00#8) State.reset (fun t => (t.cmdres, t.flags)) = some (0x03#8, 0x20#8) := by
  decide
/-- R28: the low nibble is stored. -/
theorem test_wrTxCat_stores : after (.wrTxCat 0x2F#8) State.reset (fun t => memRead t 0x05#6) = some 0x2F#8 := by decide
theorem test_wrTxFn_stores : after (.wrTxFn 0x11#8) State.reset (fun t => memRead t 0x06#6) = some 0x11#8 := by decide
/-- R144's example. -/
theorem test_wrTxLen_stores : after (.wrTxLen 0x10#8) State.reset (fun t => memRead t 0x07#6) = some 0x10#8 := by decide
theorem test_wrTxData_stores_last :
    after (.wrTxData 14#4 0x55#8) State.reset (fun t => (memRead t 0x1E#6, memRead t 0x1D#6)) = some (0x55#8, 0x00#8) := by
  decide
theorem test_wrIgnoredStatus_ignored : after (.wrIgnoredStatus 0xFF#8) (armed []) id = some (armed []) := by decide
theorem test_wrIgnoredCmdres_ignored : after (.wrIgnoredCmdres 0xFF#8) (armed []) id = some (armed []) := by decide
/-- H8: it does not acknowledge. -/
theorem test_wrIgnoredResult_ignored : after (.wrIgnoredResult 0#3 0x00#8) (waiting 0x02#8) id = some (waiting 0x02#8) := by
  decide
/-- R52. -/
theorem test_wrIgnoredGap_ignored : after (.wrIgnoredGap 0x12#8) (armed []) id = some (armed []) := by decide
theorem test_wrIgnoredUpper_ignored : after (.wrIgnoredUpper 0#5 0x12#8) (armed []) id = some (armed []) := by decide
/-- R173's example, its third step. -/
theorem test_txPop_last_byte_arms :
    after .txPop (sending [0x20#8, 0x00#8, 0x20#8] 2) (fun t => (t.txStream, status t)) = some ([0x20#8], 0x02#8) := by decide
theorem test_txPop_first_byte :
    after .txPop (sending [0x20#8, 0x00#8, 0x21#8] 0) (fun t => (t.txStream, t.txIdx, status t)) =
      some ([0x20#8], 1#5, 0x01#8) := by decide
/-- R174's example (S1). -/
theorem test_rxByte_decodes :
    after (.rxByte 0x20#8) (armed [0x20#8, 0x00#8])
      (fun t => (t.resKind, t.rxB0, t.rxFn, t.rxChk, t.rxCnt, status t, t.flags)) =
      some (0x01#8, 0x20#8, 0x00#8, 0x20#8, 0x03#8, 0x18#8, 0x00#8) := by decide
/-- S2: `Invalid` under DROP_ONE. -/
theorem test_rxByte_invalid_drops_one :
    after (.rxByte 0x00#8) (armed [0x30#8, 0x20#8]) (fun t => (t.rxBuf, status t, t.flags)) =
      some ([0x20#8, 0x00#8], 0x06#8, 0x01#8) := by decide
/-- S5: residual bytes. -/
theorem test_scan_residual_is_stray :
    after .scan { scanning [0x20#8, 0x00#8, 0x20#8, 0x55#8] with flags := 0x01#8 } (fun t => (t.resKind, t.flags, t.rxBuf)) =
      some (0x01#8, 0x03#8, []) := by decide
/-- R224: under DROP_ALL. -/
theorem test_scan_drop_all :
    after .scan { scanning [0x30#8, 0x20#8, 0x00#8] with ctrl := 0x01#8 } (fun t => (t.rxBuf, t.scan, t.rxArmed)) =
      some ([], false, true) := by decide
/-- S6, the third TICK, with `T_RESP = 3`. -/
theorem test_tick_times_out :
    (fun t : State => (t.resKind, rxBufLen t, status t)) (tickTimer 3 2 { armed [0x20#8, 0x00#8] with timer := 2, linkOk := true }) =
      (0x02#8, 0x00#8, 0x10#8) := by decide
/-- S7: not armed. -/
theorem test_tick_not_armed : after .tick (sending [0x00#8, 0x00#8, 0x00#8] 0) State.timer = some 0 := by decide
/-- X1. -/
theorem test_reset_drops_the_attempt :
    after .reset { armed [0x20#8, 0x00#8] with txStream := [0x20#8] } (fun t => (rxBufLen t, status t, t.resKind, t.txStream)) =
      some (0x00#8, 0x00#8, 0x00#8, [0x20#8]) := by decide

/-! ## The machine's step -/

theorem test_step_runs_the_fetched_word :
    (nextOf (step (State.reset.withFetchWord 16 0x4300))).map State.cmdres = some 0x03#8 := by decide
theorem test_step_runs_the_fetched_byte :
    (nextOf (step (State.reset.withFetchWord 8 0x77))).map State.flags = some 0x02#8 := by decide
/-- R174: a byte held off is not lost. -/
theorem test_step_holds_the_byte :
    (nextOf (step { scanning [0x20#8, 0x00#8] with pending := [.rxPort 0x20#8] })).map (fun t => (t.scan, t.pending)) =
      some (false, [.rxPort 0x20#8]) := by decide

/-! ## Listings -/

/-- R83, P1 steps 1 to 4. -/
theorem test_sendf_words :
    (sendf 0x20#8 0x00#8 []).map lineStep =
      [.host 0x4520#15, .host 0x4600#15, .host 0x4700#15, .host 0x4301#15] := by decide
/-- P2 steps 9 to 15: RXF puts one SCAN before the byte that completes the frame. -/
theorem test_rxf_inserts_scan :
    rxf [0x02#8, 0x12#8, 0x11#8, 0x02#8, 0x85#8, 0xAA#8] (armed []) =
      [.rxb 0x02#8, .rxb 0x12#8, .rxb 0x11#8, .rxb 0x02#8, .rxb 0x85#8, .scan, .rxb 0xAA#8] := by decide

/-! ## The hypotheses of the statements can be met -/

theorem armed_inv : AssemblyInv (armed [0x20#8]) :=
  ⟨by decide, by decide, by decide, by decide, by decide, by decide, by decide, Nat.zero_le _⟩

theorem scanning_inv : AssemblyInv (scanning (List.replicate 17 0x00#8)) :=
  ⟨by decide, by decide, by decide, by decide, by decide, by decide, by decide, Nat.zero_le _⟩

theorem waiting_inv : AssemblyInv (waiting 0x01#8) :=
  ⟨by decide, by decide, by decide, by decide, by decide, by decide, by decide, Nat.zero_le _⟩

theorem deadline_inv : AssemblyInv { armed [] with timer := Config.ticksBeforeDeadline } :=
  ⟨fun h => absurd h (by simp [armed]), by decide, by decide, by decide, by decide, by decide, by decide, le_refl _⟩

theorem test_witness_HostWordFieldsStandWhereNumbered :
    fieldW 0x0100#15 = false ∧ fieldW 0x01FF#15 = false ∧ fieldA 0x0100#15 = fieldA 0x01FF#15 := by decide

theorem test_witness_EveryHostWordHasExactlyOneRow :
    fieldW 0x3F00#15 = false ∧ ((0x00#8 ≠ 0x01#8 ∧ 0x00#8 ≠ 0x02#8 ∧ 0x00#8 ≠ 0x03#8) ∧ 14#4 ≠ 15#4) ∧
      ignoresWrites 0x01#6 = true ∧ ignoresWrites 0x08#6 = true ∧ ignoresWrites 0x0F#6 = true ∧
      ignoresWrites 0x1F#6 = true ∧ ignoresWrites 0x20#6 = true ∧ ignoresWrites 0x3F#6 = true := by decide

theorem test_witness_DecodeOfEncodeIsTheInstruction : (Instr.wrTxData 14#4 0x00#8).WellFormed := by decide

theorem test_witness_EncodeOfDecodeIsTheStep :
    fieldW 0x4301#15 = true ∧ fieldW 0x01A5#15 = false := by decide

theorem test_witness_ChecksumIsTheByteSumModulo256 :
    [0x01#8, 0x02#8].Perm [0x02#8, 0x01#8] ∧ ([0x80#8, 0x80#8].map BitVec.toNat).sum % 256 = 0 := by decide

theorem test_witness_EncoderLaysOutTheFrame :
    15 < (List.replicate 16 0x00#8).length ∧ (List.replicate 15 0x00#8).length ≤ 15 ∧ ([] : List Byte).length ≤ 15 := by
  decide

theorem test_witness_DecodedFrameIsTheEncodedOne : (List.replicate 15 0xFF#8).length ≤ 15 := by decide

theorem test_witness_DecodedRecordHasTheFrameFields :
    tryDecode [0x20#8, 0x00#8, 0x20#8] = .decoded ⟨0x20#8, 0x20#8, 0#4, 0x00#8, [], 0x20#8⟩ 3 := by decide

theorem test_witness_ShorterThanItsFrameIsIncomplete :
    [0x21#8, 0x00#8, 0x20#8, 0x41#8].head? = some 0x21#8 ∧
      [0x21#8, 0x00#8, 0x20#8] <+: [0x21#8, 0x00#8, 0x20#8, 0x41#8] ∧
      [0x21#8, 0x00#8, 0x20#8].length < 3 + (0x21#8 &&& 0x0F#8).toNat := by decide

theorem test_witness_BytesAfterTheFrameAreNotRead :
    frameLength 0x20#8 ≤ [0x20#8, 0x00#8, 0x20#8].length ∧ frameLength 0x20#8 ≤ [0x20#8, 0x00#8, 0x20#8, 0xFF#8].length := by
  decide

/-- Case 1 at the checksum's top bit and the lowest category bit, case 2 longer (bit 1) and shorter (bit 0), and changes
that cancel: in two operands, and in the lowest category bit and the checksum. -/
theorem test_witness_SingleBitErrorsAreCaughtButInTheCount :
    (∃ fr, tryDecode [0x21#8, 0x00#8, 0x20#8, 0x41#8] = .decoded fr [0x21#8, 0x00#8, 0x20#8, 0x41#8].length ∧
      [0x21#8, 0x00#8, 0x20#8, 0x41#8].length < 3 + (fr.n.toNat ^^^ 2 ^ 1) ∧
      3 + (fr.n.toNat ^^^ 2 ^ 0) < [0x21#8, 0x00#8, 0x20#8, 0x41#8].length) ∧
    ((3 < 4 ∧ 7 < 8 ∧ 1 ≤ 3) ∧ (0 < 4 ∧ 4 < 8 ∧ 4 ≤ 4)) ∧
    (∃ fr, tryDecode [0x12#8, 0x11#8, 0x02#8, 0x85#8, 0xAA#8] = .decoded fr 5) ∧
    (∀ g ∈ [[0x12#8, 0x11#8, 0x03#8, 0x84#8, 0xAA#8], [0x02#8, 0x11#8, 0x02#8, 0x85#8, 0x9A#8]],
      g.length = 5 ∧ g.head?.map countOf = some (countOf 0x12#8) ∧
        g.getLast?.map (sum8 g.dropLast - ·) = some (sum8 [0x12#8, 0x11#8, 0x02#8, 0x85#8] - 0xAA#8)) :=
  ⟨⟨⟨0x21#8, 0x20#8, 1#4, 0x00#8, [0x20#8], 0x41#8⟩, by decide⟩, by decide,
    ⟨⟨0x12#8, 0x10#8, 2#4, 0x11#8, [0x02#8, 0x85#8], 0xAA#8⟩, by decide⟩, by decide⟩

theorem test_witness_ReadReturnsTheRegisterMap :
    reservedAddress 0x0E#6 = true ∧ reservedAddress 0x0F#6 = true ∧ reservedAddress 0x1F#6 = true ∧
      reservedAddress 0x2F#6 = true ∧ reservedAddress 0x3F#6 = true ∧ reservedAddress 0x2E#6 = false := by decide

theorem test_witness_OutputsAreFunctionsOfState : (sending [0x00#8, 0x00#8, 0x00#8] 17).txIdx.toNat < 18 := by decide

theorem test_witness_ReservedSpaceIsInert : reservedAddress 0x2F#6 = true ∧ reservedAddress 0x0E#6 = true := by decide

theorem test_witness_StagingHeaderWritesStoreAllBits :
    State.reset.txBusy = false ∧ State.reset.rxArmed = false ∧ 15 < (0x10#8).toNat := by decide

theorem test_witness_WrTxDataStoresOneOperand :
    14#4 ≠ 15#4 ∧ ({ State.reset with regTxLen := 0x0E#8 }).regTxLen.toNat ≤ (14#4).toNat := by decide

theorem test_witness_IgnoredWritesChangeNothing :
    ignoresWrites 0x01#6 = true ∧ ignoresWrites 0x04#6 = true ∧ ignoresWrites 0x0E#6 = true ∧
      ignoresWrites 0x1F#6 = true ∧ ignoresWrites 0x2F#6 = true := by decide

theorem test_witness_SendChecksThenLatchesTheFrame :
    ((sending [0x00#8] 0).txBusy = true ∨ (sending [0x00#8] 0).rxArmed = true) ∧
      ((armed []).txBusy = true ∨ (armed []).rxArmed = true) ∧
      (State.reset.txBusy = false ∧ State.reset.rxArmed = false) ∧
      15 < ({ State.reset with regTxLen := 0x10#8 }).regTxLen.toNat ∧
      ({ State.reset with regTxLen := 0x0F#8 }).regTxLen.toNat ≤ 15 := by decide

theorem test_witness_AbortCancelsTheExchange :
    ((sending [0x00#8] 0).txBusy = true ∨ (sending [0x00#8] 0).rxArmed = true) ∧
      (waiting 0x02#8).txBusy = false ∧ (waiting 0x02#8).rxArmed = false := by decide

theorem test_witness_ReservedCommandReportsBadCmd :
    (0x00#8 ≠ 0x01#8 ∧ 0x00#8 ≠ 0x02#8 ∧ 0x00#8 ≠ 0x03#8) ∧ (0x04#8 ≠ 0x01#8 ∧ 0x04#8 ≠ 0x02#8 ∧ 0x04#8 ≠ 0x03#8) := by
  decide

/-- The last and a middle byte of the longest frame. -/
theorem test_witness_TxPopEmitsAndArmsOnTheLastByte :
    (sending (List.replicate 18 0xFF#8) 17).txBusy = true ∧ (sending (List.replicate 18 0xFF#8) 17).txIdx.toNat < 18 ∧
      (sending (List.replicate 18 0xFF#8) 17).txIdx.toNat + 1 = (sending (List.replicate 18 0xFF#8) 17).txLen.toNat ∧
      (sending (List.replicate 18 0xFF#8) 16).txIdx.toNat + 1 ≠ (sending (List.replicate 18 0xFF#8) 16).txLen.toNat := by
  decide

/-- A stray byte and an assembled one, and the outcomes EVAL can have on the buffer with it. -/
theorem test_witness_RxByteIsStrayOrEvaluated :
    (State.reset.scan = false ∧ State.reset.rxArmed = false) ∧
      ((armed [0x30#8, 0x20#8]).scan = false ∧ (armed [0x30#8, 0x20#8]).rxArmed = true) ∧
      tryDecode ([0x30#8, 0x20#8] ++ [0x00#8]) = .invalid ∧ tryDecode ([0x30#8] ++ [0x20#8]) = .incomplete ∧
      tryDecode ([0x20#8, 0x00#8] ++ [0x20#8]) = .decoded ⟨0x20#8, 0x20#8, 0#4, 0x00#8, [], 0x20#8⟩ 3 ∧
      (armed []).ctrl.getLsbD 0 = false ∧ ({ armed [] with ctrl := 0x01#8 }).ctrl.getLsbD 0 = true := by decide

theorem test_witness_ScanEvaluatesTheBuffer :
    (scanning [0x20#8, 0x00#8]).scan = true ∧ tryDecode [0x20#8, 0x00#8] = .incomplete ∧
      tryDecode [0x30#8, 0x20#8, 0x00#8] = .invalid := by decide

/-- `T_RESP = 3` and two timer bits: not armed, the deadline, one before it; and `T_RESP = 1` with none. -/
theorem test_witness_TickCountsUntilTheDeadline :
    (1 ≤ 3 ∧ 3 - 1 < 2 ^ 2) ∧ (State.reset.timer ≤ 3 - 1 ∧ State.reset.rxArmed = false) ∧
      (({ armed [] with timer := 2 }).timer ≤ 3 - 1 ∧ ({ armed [] with timer := 2 }).timer + 1 = 3) ∧
      (({ armed [] with timer := 1 }).timer ≤ 3 - 1 ∧ ({ armed [] with timer := 1 }).timer + 1 ≠ 3) ∧
      (1 ≤ 1 ∧ 1 - 1 < 2 ^ 0 ∧ (armed []).timer ≤ 1 - 1 ∧ (armed []).timer + 1 = 1) := by decide

theorem test_witness_ResetClearsTheBlock : exec .reset State.reset = .next State.reset := rfl

/-- An enabled offer, a held byte, a take and a scan that are not enabled, and nothing listed. -/
theorem test_witness_StepRunsTheOfferedInstruction :
    enabled (decode (.rxPort 0x77#8)) { State.reset with pending := [.rxPort 0x77#8] } = true ∧
      (∃ b, RawStep.rxPort 0x77#8 = .rxPort b) ∧ (scanning [0x00#8]).scan = true ∧
      State.reset.txBusy = false ∧ State.reset.scan = false ∧ State.reset.pending = [] :=
  ⟨by decide, ⟨_, rfl⟩, by decide, by decide, by decide, by decide⟩

theorem test_witness_FetchedWordIsTheNextStep : 0x7FFF < 2 ^ 15 ∧ 0xFF < 2 ^ 8 ∧ State.reset.scan = false := by decide

theorem test_witness_ExactlyTheEnabledStepsComplete :
    Instr.txPop.WellFormed ∧ ∃ t, exec .txPop (sending [0x00#8, 0x00#8, 0x00#8] 0) = .next t := ⟨by decide, _, rfl⟩

theorem test_witness_StepKeepsTheAssemblyInvariants :
    AssemblyInv ((armed [0x20#8]).withFetchWord 8 0x00) ∧ ∃ t, step ((armed [0x20#8]).withFetchWord 8 0x00) = .next t :=
  ⟨⟨by decide, by decide, by decide, by decide, by decide, by decide, by decide, Nat.zero_le _⟩, _, rfl⟩

theorem test_witness_StepKeepsReservedBitsZero :
    ReservedBitsZero ((armed [0x20#8]).withFetchWord 8 0x00) ∧
      ∃ t, step ((armed [0x20#8]).withFetchWord 8 0x00) = .next t :=
  ⟨⟨by decide, by decide, by decide, by decide⟩, _, rfl⟩

theorem test_witness_StepKeepsTheResultAValidFrame :
    ResultInv ((armed [0x20#8, 0x00#8]).withFetchWord 8 0x20) ∧
      ∃ t, step ((armed [0x20#8, 0x00#8]).withFetchWord 8 0x20) = .next t :=
  ⟨⟨by decide, by decide, by decide, by decide⟩, _, rfl⟩

theorem test_witness_ResultHoldsUntilTheNextSend :
    AssemblyInv (waiting 0x01#8) ∧ (waiting 0x01#8).txBusy = false ∧ (waiting 0x01#8).rxArmed = false ∧
      Instr.send ∉ [Instr.rd 0x08#6, .rxByte 0x55#8, .tick, .abort] ∧
      Instr.ack ∉ [Instr.rd 0x08#6, .rxByte 0x55#8, .tick, .abort] ∧
      Instr.reset ∉ [Instr.rd 0x08#6, .rxByte 0x55#8, .tick, .abort] ∧
      ∃ t, execAll [.rd 0x08#6, .rxByte 0x55#8, .tick, .abort] (waiting 0x01#8) = .next t :=
  ⟨waiting_inv, by decide, by decide, by decide, by decide, by decide, _, rfl⟩

theorem test_witness_AttemptOpensAndEndsOnlyAsListed :
    (∃ t, exec .txPop (sending [0x00#8, 0x00#8, 0x00#8] 2) = .next t ∧
      (sending [0x00#8, 0x00#8, 0x00#8] 2).rxArmed = false ∧ t.rxArmed = true) ∧
    (∃ t, exec .abort (armed []) = .next t ∧ (armed []).rxArmed = true ∧ t.rxArmed = false) :=
  ⟨⟨_, rfl, by decide, by decide⟩, _, rfl, by decide, by decide⟩

/-- An attempt that goes on, the last tick before the deadline, and no attempt. -/
theorem test_witness_TimeoutComesAtTheBudgetedTick :
    (AssemblyInv (armed [0x20#8]) ∧ ArmedThroughout [.rxByte 0x00#8] (armed [0x20#8]) ∧
      ∃ t, execAll [.rxByte 0x00#8] (armed [0x20#8]) = .next t) ∧
    (AssemblyInv { armed [] with timer := Config.ticksBeforeDeadline } ∧
      ArmedThroughout [] { armed [] with timer := Config.ticksBeforeDeadline } ∧
      ∃ t, execAll [] { armed [] with timer := Config.ticksBeforeDeadline } = .next t) ∧
    State.reset.rxArmed = false :=
  ⟨⟨armed_inv, ⟨rfl, fun t h => by cases h; rfl⟩, _, rfl⟩, ⟨deadline_inv, rfl, _, rfl⟩, rfl⟩

theorem test_witness_ScanChainEnds :
    AssemblyInv (scanning (List.replicate 17 0x00#8)) ∧ (scanning (List.replicate 17 0x00#8)).scan = true :=
  ⟨scanning_inv, by decide⟩

theorem test_witness_DropAllNeverRaisesScan :
    ({ armed [0x30#8, 0x20#8] with ctrl := 0x01#8 }).ctrl.getLsbD 0 = true ∧
      ({ armed [0x30#8, 0x20#8] with ctrl := 0x01#8 }).scan = false ∧
      ∃ t, exec (.rxByte 0x00#8) { armed [0x30#8, 0x20#8] with ctrl := 0x01#8 } = .next t :=
  ⟨by decide, by decide, _, rfl⟩

theorem test_witness_PolicyChangeActsAtTheNextEvaluation :
    (scanning [0x30#8, 0x20#8, 0x00#8]).scan = true ∧ (0x01#8).getLsbD 0 = true ∧
      tryDecode (scanning [0x30#8, 0x20#8, 0x00#8]).rxBuf = .invalid := by decide

theorem test_witness_SentFrameLeavesInIndexOrder :
    State.reset.txBusy = false ∧ State.reset.rxArmed = false ∧
      ({ State.reset with regTxLen := 0x0F#8 }).regTxLen.toNat ≤ 15 := by decide

theorem test_witness_StagingWritesDoNotReachTheTransmitPort :
    Instr.send ∉ [Instr.wrTxCat 0x21#8, .txPop] ∧
      ∃ t, execAll [.wrTxCat 0x21#8, .txPop] (sending [0x20#8, 0x00#8, 0x20#8] 0) = .next t := ⟨by decide, _, rfl⟩

theorem test_witness_ReceivedFrameBecomesTheResult :
    (List.replicate 15 0xFF#8).length ≤ 15 ∧ (armed []).rxArmed = true ∧ (armed []).rxBuf = [] ∧ (armed []).scan = false := by
  decide

theorem test_witness_SendfThenTxallTransmitsTheFrame :
    (List.replicate 15 0xFF#8).length ≤ 15 ∧ State.reset.txBusy = false ∧ State.reset.rxArmed = false := by decide

theorem test_witness_FlagsFallOnlyByTheHostOrReset :
    ∃ t, exec (.wrFlags 0x20#8) { State.reset with flags := 0x20#8 } = .next t ∧ (0x20#8).getLsbD 5 = true ∧
      t.flags.getLsbD 5 = false := ⟨_, rfl, by decide, by decide⟩

theorem test_witness_FlagsRiseOnlyAsListed :
    ∃ t, exec (.cmdRsvd 0x00#8) State.reset = .next t ∧ State.reset.flags.getLsbD 5 = false ∧
      t.flags.getLsbD 5 = true := ⟨_, rfl, by decide, by decide⟩

theorem test_witness_CmdresChangesOnlyByCommands :
    ∃ t, exec .send (armed []) = .next t ∧ t.cmdres ≠ (armed []).cmdres := ⟨_, rfl, by decide⟩

theorem test_witness_LinkHealthFollowsTheResults :
    ∃ t, exec (.rxByte 0x20#8) (armed [0x20#8, 0x00#8]) = .next t ∧ t.linkOk ≠ (armed [0x20#8, 0x00#8]).linkOk :=
  ⟨_, rfl, by decide⟩

theorem test_witness_InterruptLineMovesOnlyAsListed :
    (∃ t, exec .ack { waiting 0x01#8 with ctrl := 0x02#8 } = .next t ∧ irq { waiting 0x01#8 with ctrl := 0x02#8 } = true ∧
      irq t = false) ∧
    (∃ t, exec (.wrCtrl 0x02#8) (waiting 0x01#8) = .next t ∧ irq (waiting 0x01#8) = false ∧ irq t = true) :=
  ⟨⟨_, rfl, by decide, by decide⟩, _, rfl, by decide, by decide⟩

end Sys2Proof.Tests
end

/-! ## What one step can do -/

namespace Sys2Proof.Machine

open Sys2Proof

/-- What taking an instruction in state `s` can do: one constructor per case of its meaning, with the condition under
which the case is taken. `exec_eq_next_iff` ties it to `exec`. -/
inductive Effect (s : State) : Instr → State → Prop where
  | rd (a : HostAddr) : Effect s (.rd a) (returnToHost (memRead s a) s)
  | wrCtrl (d : Byte) : Effect s (.wrCtrl d) { s with ctrl := d &&& 0x03#8 }
  | wrFlags (d : Byte) : Effect s (.wrFlags d) { s with flags := clearedFlags d s.flags }
  | sendBusy (hopen : exchangeOpen s = true) : Effect s .send (setFlag .rej (reportCmd .busy s))
  | sendTooLong (hidle : exchangeOpen s = false) (hlen : 15 < s.regTxLen.toNat) :
      Effect s .send (setFlag .operr (reportCmd .invalidOperand s))
  | sendLatch (hidle : exchangeOpen s = false) (hlen : s.regTxLen.toNat ≤ 15) :
      Effect s .send (reportCmd .ok (latchFrame (frameBytes s.regTxCat s.regTxFn (stagedOperands s)) s))
  | abortOpen (hopen : exchangeOpen s = true) :
      Effect s .abort (reportCmd .ok (finish .cancelled (stopTransmit s)))
  | abortIdle (hidle : exchangeOpen s = false) : Effect s .abort (reportCmd .ok s)
  | ack : Effect s .ack (reportCmd .ok (retireResult s))
  | cmdRsvd (d : Byte) : Effect s (.cmdRsvd d) (setFlag .badcmd (reportCmd .badCmd s))
  | wrTxCat (d : Byte) : Effect s (.wrTxCat d) { s with regTxCat := d }
  | wrTxFn (d : Byte) : Effect s (.wrTxFn d) { s with regTxFn := d }
  | wrTxLen (d : Byte) : Effect s (.wrTxLen d) { s with regTxLen := d }
  | wrTxData (i : BitVec 4) (d : Byte) :
      Effect s (.wrTxData i d) { s with regTxData := s.regTxData.setIfInBounds i.toNat d }
  | wrIgnoredStatus (d : Byte) : Effect s (.wrIgnoredStatus d) s
  | wrIgnoredCmdres (d : Byte) : Effect s (.wrIgnoredCmdres d) s
  | wrIgnoredResult (a : BitVec 3) (d : Byte) : Effect s (.wrIgnoredResult a d) s
  | wrIgnoredGap (d : Byte) : Effect s (.wrIgnoredGap d) s
  | wrIgnoredUpper (a : BitVec 5) (d : Byte) : Effect s (.wrIgnoredUpper a d) s
  | popLast (hbusy : s.txBusy = true) (hlast : s.txIdx.toNat + 1 = s.txLen.toNat) :
      Effect s .txPop (arm (stopTransmit (emitTx (txByte s) s)))
  | popNext (hbusy : s.txBusy = true) (hnext : s.txIdx.toNat + 1 ≠ s.txLen.toNat) :
      Effect s .txPop { emitTx (txByte s) s with txIdx := s.txIdx + 1#5 }
  | rxStray (b : Byte) (hscan : s.scan = false) (hidle : s.rxArmed = false) :
      Effect s (.rxByte b) (setFlag .stray s)
  | rxEval (b : Byte) (hscan : s.scan = false) (harmed : s.rxArmed = true) :
      Effect s (.rxByte b) (evalBuffer { s with rxBuf := s.rxBuf ++ [b] })
  | scan (hscan : s.scan = true) : Effect s .scan (evalBuffer s)
  | tickIdle (hidle : s.rxArmed = false) : Effect s .tick s
  | tickTimeout (harmed : s.rxArmed = true) (hdue : s.timer + 1 = Config.tResp) :
      Effect s .tick (finish .timeout s)
  | tickCount (harmed : s.rxArmed = true) (hdue : s.timer + 1 ≠ Config.tResp) :
      Effect s .tick { s with timer := (s.timer + 1) % 2 ^ Config.tw }
  | reset : Effect s .reset (resetBlock s)

theorem exec_of_effect {i : Instr} {s t : State} (h : Effect s i t) : exec i s = .next t := by
  cases h with
  | sendBusy hopen => simp [exec, execSend, hopen]
  | sendTooLong hidle hlen =>
    have : s.regTxLen.toNat > Config.maxOperands := hlen
    simp [exec, execSend, hidle, this]
  | sendLatch hidle hlen =>
    rcases execSend_cases s with ⟨hopen, _⟩ | ⟨_, hlong, _⟩ | ⟨_, _, hsend⟩
    · simp [hidle] at hopen
    · omega
    · exact hsend
  | abortOpen hopen => simp [exec, execAbort, hopen]
  | abortIdle hidle => simp [exec, execAbort, hidle]
  | popLast hbusy hlast => simp [exec, execTxPop, hbusy, advanceTx, hlast]
  | popNext hbusy hnext => simp [exec, execTxPop, hbusy, advanceTx, hnext]
  | rxStray b hscan hidle => simp [exec, execRxByte, rxReady, hscan, receiveByte, hidle]
  | rxEval b hscan harmed => simp [exec, execRxByte, rxReady, hscan, receiveByte, harmed]
  | scan hscan => simp [exec, execScan, hscan]
  | tickIdle hidle => simp [exec, execTick, tickTimer, hidle]
  | tickTimeout harmed hdue => simp [exec, execTick, tickTimer, harmed, hdue]
  | tickCount harmed hdue => simp [exec, execTick, tickTimer, harmed, hdue]
  | _ => rfl

theorem effect_send (s : State) : ∃ t, Effect s .send t := by
  cases hopen : exchangeOpen s with
  | true => exact ⟨_, .sendBusy hopen⟩
  | false =>
    rcases Nat.lt_or_ge 15 s.regTxLen.toNat with hlen | hlen
    · exact ⟨_, .sendTooLong hopen hlen⟩
    · exact ⟨_, .sendLatch hopen hlen⟩

theorem effect_abort (s : State) : ∃ t, Effect s .abort t := by
  cases hopen : exchangeOpen s with
  | true => exact ⟨_, .abortOpen hopen⟩
  | false => exact ⟨_, .abortIdle hopen⟩

theorem effect_txPop {s : State} (hbusy : s.txBusy = true) : ∃ t, Effect s .txPop t := by
  by_cases hlast : s.txIdx.toNat + 1 = s.txLen.toNat
  · exact ⟨_, .popLast hbusy hlast⟩
  · exact ⟨_, .popNext hbusy hlast⟩

theorem effect_rxByte (b : Byte) {s : State} (hscan : s.scan = false) : ∃ t, Effect s (.rxByte b) t := by
  cases harmed : s.rxArmed with
  | true => exact ⟨_, .rxEval b hscan harmed⟩
  | false => exact ⟨_, .rxStray b hscan harmed⟩

theorem effect_tick (s : State) : ∃ t, Effect s .tick t := by
  cases harmed : s.rxArmed with
  | false => exact ⟨_, .tickIdle harmed⟩
  | true =>
    by_cases hdue : s.timer + 1 = Config.tResp
    · exact ⟨_, .tickTimeout harmed hdue⟩
    · exact ⟨_, .tickCount harmed hdue⟩

/-- An instruction with a next state has an effect; only TX_POP, RX_BYTE and SCAN can be without one (R177). -/
theorem exists_effect {i : Instr} {s t : State} (h : exec i s = .next t) : ∃ u, Effect s i u := by
  cases i with
  | send => exact effect_send s
  | abort => exact effect_abort s
  | txPop =>
    cases hbusy : s.txBusy with
    | true => exact effect_txPop hbusy
    | false => simp [exec, execTxPop, hbusy] at h
  | rxByte b =>
    cases hscan : s.scan with
    | true => simp [exec, execRxByte, rxReady, hscan] at h
    | false => exact effect_rxByte b hscan
  | scan =>
    cases hscan : s.scan with
    | true => exact ⟨_, .scan hscan⟩
    | false => simp [exec, execScan, hscan] at h
  | tick => exact effect_tick s
  | rd a => exact ⟨_, .rd a⟩
  | wrCtrl d => exact ⟨_, .wrCtrl d⟩
  | wrFlags d => exact ⟨_, .wrFlags d⟩
  | ack => exact ⟨_, .ack⟩
  | cmdRsvd d => exact ⟨_, .cmdRsvd d⟩
  | wrTxCat d => exact ⟨_, .wrTxCat d⟩
  | wrTxFn d => exact ⟨_, .wrTxFn d⟩
  | wrTxLen d => exact ⟨_, .wrTxLen d⟩
  | wrTxData k d => exact ⟨_, .wrTxData k d⟩
  | wrIgnoredStatus d => exact ⟨_, .wrIgnoredStatus d⟩
  | wrIgnoredCmdres d => exact ⟨_, .wrIgnoredCmdres d⟩
  | wrIgnoredResult a d => exact ⟨_, .wrIgnoredResult a d⟩
  | wrIgnoredGap d => exact ⟨_, .wrIgnoredGap d⟩
  | wrIgnoredUpper a d => exact ⟨_, .wrIgnoredUpper a d⟩
  | reset => exact ⟨_, .reset⟩

/-- The inversion lemma of `exec`: the next state of an instruction is one of its listed effects. -/
theorem exec_eq_next_iff {i : Instr} {s t : State} : exec i s = .next t ↔ Effect s i t := by
  refine ⟨fun h => ?_, exec_of_effect⟩
  obtain ⟨u, hu⟩ := exists_effect h
  have hut : u = t := by simpa [exec_of_effect hu] using h
  exact hut ▸ hu

/-- The offers and draws of the environment replaced; the block itself is untouched. -/
def reoffer (offers : List RawStep) (draws : Nat) (s : State) : State :=
  { s with pending := offers, draws := draws }

theorem nextOffer_eq_reoffer (s : State) : ∃ offers n, (nextOffer s).2 = reoffer offers n s := by
  rcases nextOffer_cases s with ⟨r, rest, _, hnext⟩ | ⟨_, hnext⟩
  · exact ⟨rest, s.draws, by rw [hnext]; rfl⟩
  · exact ⟨s.pending, s.draws + 1, by rw [hnext]; rfl⟩

theorem resolveOffer_eq_reoffer (r : RawStep) (s : State) :
    ∃ offers, (resolveOffer r s).2 = reoffer offers s.draws s := by
  rcases resolveOffer_cases r s with ⟨_, hres⟩ | ⟨b, _, _, hres⟩ | ⟨_, _, hres⟩
  · exact ⟨s.pending, by rw [hres]; rfl⟩
  · exact ⟨r :: s.pending, by rw [hres]; rfl⟩
  · exact ⟨s.pending, by rw [hres]; rfl⟩

/-- The inversion lemma of `step`: the environment's side moves, and then at most one instruction takes effect. -/
theorem step_cases {s t : State} (h : step s = .next t) :
    ∃ offers n, t = reoffer offers n s ∨ ∃ i, Effect (reoffer offers n s) i t := by
  obtain ⟨listed, n, hnext⟩ := nextOffer_eq_reoffer s
  obtain ⟨offers, hres⟩ := resolveOffer_eq_reoffer (nextOffer s).1 (nextOffer s).2
  have hstate : (scheduled s).2 = reoffer offers n s := by rw [scheduled, hres, hnext]; rfl
  refine ⟨offers, n, ?_⟩
  rw [← hstate]
  unfold step at h
  split at h
  next i s' hsched => exact .inr ⟨i, by rw [hsched]; exact exec_eq_next_iff.mp h⟩
  next s' hsched => exact .inl (by rw [hsched]; simpa using h.symm)

/-- A property of the block that every effect keeps is kept by every step, whatever is offered or drawn. -/
theorem step_keeps {P : State → Prop} (hoffer : ∀ s offers n, P s → P (reoffer offers n s))
    (heffect : ∀ s i t, P s → Effect s i t → P t) {s t : State} (hs : P s) (h : step s = .next t) : P t := by
  obtain ⟨offers, n, rfl | ⟨i, he⟩⟩ := step_cases h
  · exact hoffer s offers n hs
  · exact heffect _ i t (hoffer s offers n hs) he

/-! ## What an evaluation leaves unchanged -/

theorem resynchronise_frame (s : State) :
    ∃ buf due, resynchronise s = { s with rxBuf := buf, scan := due } := by
  rcases resynchronise_cases s with ⟨_, hres⟩ | ⟨_, hres⟩
  · exact ⟨_, _, hres⟩
  · exact ⟨_, _, hres⟩

theorem noteResidual_frame (k : Nat) (s : State) : ∃ flags, noteResidual k s = { s with flags := flags } := by
  rcases noteResidual_cases k s with ⟨_, hres⟩ | ⟨_, hres⟩
  · exact ⟨_, hres⟩
  · exact ⟨s.flags, hres⟩

/-- EVAL ends the attempt with a decoded frame, or touches the flags and the assembly buffer only. -/
theorem evalBuffer_frame (s : State) :
    (∃ flags buf due, evalBuffer s = { s with flags := flags, rxBuf := buf, scan := due }) ∨
    (∃ fr k flags, tryDecode s.rxBuf = .decoded fr k ∧
      evalBuffer s = finish (.decoded fr) { s with flags := flags }) := by
  rcases evalBuffer_cases s with ⟨_, heval⟩ | ⟨fr, k, hdec, heval⟩ | ⟨_, heval⟩
  · exact .inl ⟨s.flags, s.rxBuf, false, heval⟩
  · obtain ⟨flags, hres⟩ := noteResidual_frame k s
    exact .inr ⟨fr, k, flags, hdec, by rw [heval, hres]⟩
  · obtain ⟨buf, due, hres⟩ := resynchronise_frame (setFlag .inv s)
    exact .inl ⟨withFlag .inv s.flags, buf, due, by rw [heval, hres]; rfl⟩

end Sys2Proof.Machine

/-! ## R39: the assembly invariants -/

namespace Sys2Proof.Machine

open Sys2Proof

/-- The part of the state that R39 speaks of. -/
def assemblyPart (s : State) : Bool × BitVec 5 × BitVec 5 × Bool × List Byte × Bool × Nat :=
  (s.txBusy, s.txLen, s.txIdx, s.rxArmed, s.rxBuf, s.scan, s.timer)

theorem AssemblyInv.of_assemblyPart_eq {s t : State} (hs : AssemblyInv s) (h : assemblyPart t = assemblyPart s) :
    AssemblyInv t := by
  simp only [assemblyPart, Prod.mk.injEq] at h
  obtain ⟨hbusy, hlen, hidx, harmed, hbuf, hscan, htimer⟩ := h
  constructor
  · rw [harmed, hbuf, hscan, htimer]; exact hs.disarmed
  · rw [hbusy, harmed]; exact hs.halfDuplex
  · rw [hscan, harmed, hbuf]; exact hs.scanning
  · rw [harmed, hscan, hbuf]; exact hs.waiting
  · rw [hbuf]; exact hs.bufferBound
  · rw [hbusy, hlen, hidx]; exact hs.sending
  · rw [hbusy, hidx]; exact hs.notSending
  · rw [htimer]; exact hs.timerBound

/-- Half duplex (R39 item 2), read from the receiver's side. -/
theorem AssemblyInv.txIdle_of_armed {s : State} (hs : AssemblyInv s) (harmed : s.rxArmed = true) : s.txBusy = false := by
  cases hbusy : s.txBusy with
  | false => rfl
  | true => simp [hs.halfDuplex hbusy] at harmed

theorem assemblyInv_stopTransmit {s : State} (hs : AssemblyInv s) : AssemblyInv (stopTransmit s) where
  disarmed := hs.disarmed
  halfDuplex := by simp
  scanning := hs.scanning
  waiting := hs.waiting
  bufferBound := hs.bufferBound
  sending := by simp
  notSending _ := rfl
  timerBound := hs.timerBound

theorem assemblyInv_arm {s : State} (hidle : s.txBusy = false) (hidx : s.txIdx = 0#5) : AssemblyInv (arm s) where
  disarmed := by simp
  halfDuplex := by simp [hidle]
  scanning := by simp
  waiting := by simp
  bufferBound := by simp
  sending := by simp [hidle]
  notSending _ := hidx
  timerBound := by simp

/-- R171: a terminal result empties the receiver, so only item 6 needs what held before. -/
theorem assemblyInv_finish (k : Terminal) {s : State}
    (hsending : s.txBusy = true → 3 ≤ s.txLen.toNat ∧ s.txLen.toNat ≤ 18 ∧ s.txIdx.toNat < s.txLen.toNat)
    (hnotSending : s.txBusy = false → s.txIdx = 0#5) : AssemblyInv (finish k s) where
  disarmed _ := ⟨rfl, rfl, rfl⟩
  halfDuplex _ := rfl
  scanning := by simp
  waiting := by simp
  bufferBound := by simp
  sending := hsending
  notSending := hnotSending
  timerBound := by simp

/-- An accepted SEND in a half-duplex idle state: the frame it latches has 3 to 18 bytes. -/
theorem assemblyInv_latchFrame {f : List Byte} {s : State} (hs : AssemblyInv s) (hidle : exchangeOpen s = false)
    (hmin : 3 ≤ f.length) (hmax : f.length ≤ 18) : AssemblyInv (latchFrame f s) := by
  obtain ⟨_, hdisarmed⟩ := (exchangeOpen_eq_false s).mp hidle
  have hlen : (latchFrame f s).txLen.toNat = f.length := by
    simp only [latchFrame_txLen, BitVec.toNat_ofNat]
    omega
  exact {
    disarmed := hs.disarmed
    halfDuplex := fun _ => hdisarmed
    scanning := hs.scanning
    waiting := hs.waiting
    bufferBound := hs.bufferBound
    sending := fun _ => ⟨hlen ▸ hmin, hlen ▸ hmax, by rw [hlen]; simp; omega⟩
    notSending := by simp
    timerBound := hs.timerBound }

/-- R173: a byte that is not the last one leaves the index inside the frame. -/
theorem assemblyInv_nextByte {s : State} (hs : AssemblyInv s) (hbusy : s.txBusy = true)
    (hnext : s.txIdx.toNat + 1 ≠ s.txLen.toNat) : AssemblyInv { s with txIdx := s.txIdx + 1#5 } := by
  obtain ⟨hmin, hmax, hidx⟩ := hs.sending hbusy
  have hstep : (s.txIdx + 1#5).toNat = s.txIdx.toNat + 1 := by
    simp only [BitVec.toNat_add, BitVec.toNat_ofNat]
    omega
  exact {
    disarmed := hs.disarmed
    halfDuplex := hs.halfDuplex
    scanning := hs.scanning
    waiting := hs.waiting
    bufferBound := hs.bufferBound
    sending := fun _ => ⟨hmin, hmax, hstep ▸ lt_of_le_of_ne hidx hnext⟩
    notSending := by simp [hbusy]
    timerBound := hs.timerBound }

/-- R35, R39: what holds of an open attempt when its buffer is about to be evaluated. Items 3 and 4 may fail until
EVAL has run. -/
structure ReadyToEval (s : State) : Prop where
  armed : s.rxArmed = true
  txIdle : s.txBusy = false
  txIdx : s.txIdx = 0#5
  bufferBound : s.rxBuf.length ≤ 18
  timerBound : s.timer ≤ Config.tResp - 1

theorem readyToEval_scan {s : State} (hs : AssemblyInv s) (hscan : s.scan = true) : ReadyToEval s := by
  obtain ⟨harmed, _⟩ := hs.scanning hscan
  have hidle := hs.txIdle_of_armed harmed
  exact ⟨harmed, hidle, hs.notSending hidle, hs.bufferBound, hs.timerBound⟩

/-- The buffer a byte is added to was incomplete (R39 item 4), so it had room for it. -/
theorem readyToEval_append (b : Byte) {s : State} (hs : AssemblyInv s) (harmed : s.rxArmed = true)
    (hscan : s.scan = false) : ReadyToEval { s with rxBuf := s.rxBuf ++ [b] } := by
  have hidle := hs.txIdle_of_armed harmed
  obtain ⟨_, hroom⟩ := hs.waiting harmed hscan
  refine ⟨harmed, hidle, hs.notSending hidle, ?_, hs.timerBound⟩
  simpa using Nat.lt_succ_of_le hroom

/-- An open attempt whose buffer has been dealt with meets R39: it is incomplete, or not empty and due for a scan. -/
theorem ReadyToEval.assemblyInv {s : State} (hs : ReadyToEval s)
    (hwait : s.scan = false → tryDecode s.rxBuf = .incomplete) (hdue : s.scan = true → s.rxBuf ≠ []) :
    AssemblyInv s where
  disarmed := by simp [hs.armed]
  halfDuplex := by simp [hs.txIdle]
  scanning h := ⟨hs.armed, hdue h⟩
  waiting _ h := ⟨hwait h, length_of_incomplete (hwait h)⟩
  bufferBound := hs.bufferBound
  sending := by simp [hs.txIdle]
  notSending _ := hs.txIdx
  timerBound := hs.timerBound

theorem assemblyInv_resynchronise {s : State} (hs : ReadyToEval s) : AssemblyInv (resynchronise s) := by
  rcases resynchronise_cases s with ⟨_, hres⟩ | ⟨_, hres⟩
  · rw [hres]
    have hready : ReadyToEval { s with rxBuf := [], scan := false } :=
      ⟨hs.armed, hs.txIdle, hs.txIdx, Nat.zero_le _, hs.timerBound⟩
    exact hready.assemblyInv (fun _ => rfl) (by simp)
  · rw [hres]
    have htail : s.rxBuf.tail.length ≤ 18 := le_trans (by simp) hs.bufferBound
    have hready : ReadyToEval { s with rxBuf := s.rxBuf.tail, scan := !s.rxBuf.tail.isEmpty } :=
      ⟨hs.armed, hs.txIdle, hs.txIdx, htail, hs.timerBound⟩
    refine hready.assemblyInv (fun hwait => ?_) (by simp)
    have hempty : s.rxBuf.tail = [] := by simpa using hwait
    simp [hempty]

theorem assemblyInv_evalBuffer {s : State} (hs : ReadyToEval s) : AssemblyInv (evalBuffer s) := by
  rcases evalBuffer_cases s with ⟨hdec, heval⟩ | ⟨fr, k, _, heval⟩ | ⟨_, heval⟩
  · rw [heval]
    have hready : ReadyToEval { s with scan := false } :=
      ⟨hs.armed, hs.txIdle, hs.txIdx, hs.bufferBound, hs.timerBound⟩
    exact hready.assemblyInv (fun _ => hdec) (by simp)
  · obtain ⟨flags, hres⟩ := noteResidual_frame k s
    rw [heval, hres]
    exact assemblyInv_finish _ (by simp [hs.txIdle]) (fun _ => hs.txIdx)
  · rw [heval]
    exact assemblyInv_resynchronise ⟨hs.armed, hs.txIdle, hs.txIdx, hs.bufferBound, hs.timerBound⟩

theorem assemblyInv_countTick {s : State} (hs : AssemblyInv s) (harmed : s.rxArmed = true)
    (hdue : s.timer + 1 ≠ Config.tResp) :
    AssemblyInv { s with timer := (s.timer + 1) % 2 ^ Config.tw } where
  disarmed := by simp [harmed]
  halfDuplex := hs.halfDuplex
  scanning := hs.scanning
  waiting := hs.waiting
  bufferBound := hs.bufferBound
  sending := hs.sending
  notSending := hs.notSending
  timerBound := by
    have hpos : 1 ≤ Config.tResp := Nat.succ_pos _
    have hbound := hs.timerBound
    exact le_trans (Nat.mod_le _ _) (by omega)

theorem assemblyInv_resetBlock (s : State) : AssemblyInv (resetBlock s) where
  disarmed _ := ⟨rfl, rfl, rfl⟩
  halfDuplex _ := rfl
  scanning := by simp [State.reset]
  waiting := by simp [State.reset]
  bufferBound := Nat.zero_le _
  sending := by simp [State.reset]
  notSending _ := rfl
  timerBound := Nat.zero_le _

theorem frame_length_of_staged {s : State} (hlen : s.regTxLen.toNat ≤ 15) :
    (frameBytes s.regTxCat s.regTxFn (stagedOperands s)).length = 3 + s.regTxLen.toNat := by
  rw [frameBytes_length, stagedOperands_length hlen]

/-- R39: every instruction keeps the invariants. The cases not named leave the seven fields as they are. -/
theorem effect_keeps_assemblyInv {s t : State} {i : Instr} (hs : AssemblyInv s) (h : Effect s i t) :
    AssemblyInv t := by
  cases h with
  | sendLatch hidle hlen =>
    have hframe := frame_length_of_staged hlen
    have hlatch := assemblyInv_latchFrame hs hidle (f := frameBytes s.regTxCat s.regTxFn (stagedOperands s))
      (by omega) (by omega)
    exact hlatch.of_assemblyPart_eq rfl
  | abortOpen =>
    have hstop := assemblyInv_stopTransmit hs
    exact (assemblyInv_finish .cancelled hstop.sending hstop.notSending).of_assemblyPart_eq rfl
  | popLast => exact assemblyInv_arm rfl rfl
  | popNext hbusy hnext =>
    have hemit : AssemblyInv (emitTx (txByte s) s) := hs.of_assemblyPart_eq rfl
    exact assemblyInv_nextByte hemit hbusy hnext
  | rxEval b hscan harmed => exact assemblyInv_evalBuffer (readyToEval_append b hs harmed hscan)
  | scan hscan => exact assemblyInv_evalBuffer (readyToEval_scan hs hscan)
  | tickTimeout => exact assemblyInv_finish .timeout hs.sending hs.notSending
  | tickCount harmed hdue => exact assemblyInv_countTick hs harmed hdue
  | reset => exact assemblyInv_resetBlock s
  | _ => exact hs.of_assemblyPart_eq rfl

end Sys2Proof.Machine

section

open Sys2Proof Sys2Proof.Machine

/-- Settles O36: each effect of an instruction keeps the seven items of R39. -/
theorem stepKeepsTheAssemblyInvariants : Obligations.StepKeepsTheAssemblyInvariants := by
  unfold Obligations.StepKeepsTheAssemblyInvariants
  intro s t hs h
  exact step_keeps (fun s offers n hs => hs.of_assemblyPart_eq rfl) (fun _ _ _ => effect_keeps_assemblyInv) hs h

end

/-! ## R31, R32, R202: the result registers -/

namespace Sys2Proof.Machine

open Sys2Proof

/-- A decoded frame's record as the result registers need it: its count, its operands and its checksum (R101, R122). -/
theorem tryDecode_decoded_fields {buf : List Byte} {fr : Frame} {k : Nat} (h : tryDecode buf = .decoded fr k) :
    fr.n = countOf fr.b0 ∧ fr.data.length = fr.n.toNat ∧ fr.checksum = sum8 ([fr.b0, fr.function] ++ fr.data) := by
  match buf, h with
  | [], h => simp at h
  | [b0], h =>
    have := length_of_not_incomplete (h ▸ by simp : tryDecode [b0] ≠ .incomplete)
    simp at this
  | b0 :: fn :: rest, h =>
    rcases tryDecode_cases b0 (fn :: rest) with ⟨_, hdec⟩ | ⟨hlen, hsum, hdec⟩ | ⟨_, _, hdec⟩
    · simp [hdec] at h
    · have hfr : fr = frameOf ((b0 :: fn :: rest).take (frameLength b0)) := by
        rw [hdec] at h
        exact (DecodeResult.decoded.inj h).1.symm
      have hL : frameLength b0 = (countOf b0).toNat + 1 + 2 := by simp only [frameLength]; omega
      have hroom : (countOf b0).toNat + 1 ≤ rest.length := by simpa [hL] using hlen
      have hchk : rest[(countOf b0).toNat]? = some (sum8 (b0 :: fn :: rest.take (countOf b0).toNat)) := by
        simpa [hL] using hsum
      subst hfr
      refine ⟨?_, ?_, ?_⟩
      · simp [frameOf, hL]
      · simp [frameOf, hL]; omega
      · simp [frameOf, hL, hchk, List.take_take]
    · simp [hdec] at h

/-- The registers that R31, R32 and R202 speak of. -/
def resultPart (s : State) : Byte × Byte × Byte × Byte × Byte × Vector Byte 15 :=
  (s.resKind, s.rxB0, s.rxFn, s.rxChk, s.rxCnt, s.rxData)

theorem ResultInv.of_resultPart_eq {s t : State} (hs : ResultInv s) (h : resultPart t = resultPart s) :
    ResultInv t := by
  simp only [resultPart, Prod.mk.injEq] at h
  obtain ⟨hkind, hb0, hfn, hchk, hcnt, hdata⟩ := h
  constructor
  · rw [hkind, hb0, hfn, hchk, hcnt, hdata]; exact hs.cleared
  · rw [hkind, hcnt, hb0]; exact hs.length
  · rw [hkind, hb0, hdata]; exact hs.zeroFill
  · rw [hkind, hchk, hb0, hfn, hdata]; exact hs.checksum

/-- Registers that read 0 under a kind other than DECODED meet the invariant (R171, R207, R220). -/
theorem resultInv_of_cleared {s : State} (hkind : s.resKind ≠ 0x01#8)
    (hclear : s.rxB0 = 0x00#8 ∧ s.rxFn = 0x00#8 ∧ s.rxChk = 0x00#8 ∧ s.rxCnt = 0x00#8 ∧
      s.rxData = Vector.replicate 15 0x00#8) : ResultInv s where
  cleared _ := hclear
  length h := absurd h hkind
  zeroFill h := absurd h hkind
  checksum h := absurd h hkind

/-- The operands stand at the front of `RX_DATA`. -/
theorem resultData_take {fr : Frame} (hlen : fr.data.length = fr.n.toNat) :
    (resultData (.decoded fr)).toList.take fr.n.toNat = fr.data := by
  have hn : fr.n.toNat ≤ 15 := Nat.le_of_lt_succ fr.n.isLt
  refine List.ext_getElem (by simp [hlen, hn]) fun i hi hi' => ?_
  have hin : i < fr.n.toNat := hlen ▸ hi'
  simp [resultData, hin, List.getElem?_eq_getElem hi']

theorem resultInv_finish_decoded {fr : Frame} (s : State) (hn : fr.n = countOf fr.b0)
    (hlen : fr.data.length = fr.n.toNat) (hchk : fr.checksum = sum8 ([fr.b0, fr.function] ++ fr.data)) :
    ResultInv (finish (.decoded fr) s) where
  cleared h := absurd rfl h
  length _ := by simp [resultCnt, resultB0, frameLength, hn]
  zeroFill _ i hi := by
    have hpast : ¬ i.val < fr.n.toNat := by rw [hn]; exact Nat.not_lt.mpr hi
    simp [resultData, hpast]
  checksum _ := by
    simp only [finish_rxChk, finish_rxB0, finish_rxFn, finish_rxData, resultChk, resultB0, resultFn]
    rw [← hn, resultData_take hlen, hchk]

/-- EVAL writes the result registers only with a decoded frame. -/
theorem resultInv_evalBuffer {s : State} (hs : ResultInv s) : ResultInv (evalBuffer s) := by
  rcases evalBuffer_frame s with ⟨_, _, _, heval⟩ | ⟨fr, k, _, hdec, heval⟩
  · exact hs.of_resultPart_eq (by rw [heval]; rfl)
  · obtain ⟨hn, hlen, hchk⟩ := tryDecode_decoded_fields hdec
    rw [heval]
    exact resultInv_finish_decoded _ hn hlen hchk

theorem effect_keeps_resultInv {s t : State} {i : Instr} (hs : ResultInv s) (h : Effect s i t) : ResultInv t := by
  cases h with
  | abortOpen => exact resultInv_of_cleared (by decide : (0x03#8 : Byte) ≠ 0x01#8) ⟨rfl, rfl, rfl, rfl, rfl⟩
  | ack => exact resultInv_of_cleared (by decide : (0x00#8 : Byte) ≠ 0x01#8) ⟨rfl, rfl, rfl, rfl, rfl⟩
  | rxEval b => exact resultInv_evalBuffer (hs.of_resultPart_eq rfl)
  | scan => exact resultInv_evalBuffer hs
  | tickTimeout => exact resultInv_of_cleared (by decide : (0x02#8 : Byte) ≠ 0x01#8) ⟨rfl, rfl, rfl, rfl, rfl⟩
  | reset => exact resultInv_of_cleared (by decide : (0x00#8 : Byte) ≠ 0x01#8) ⟨rfl, rfl, rfl, rfl, rfl⟩
  | _ => exact hs.of_resultPart_eq rfl

end Sys2Proof.Machine

section

open Sys2Proof Sys2Proof.Machine

/-- Settles O38: the registers are written only by a decoded frame, or cleared under another kind. -/
theorem stepKeepsTheResultAValidFrame : Obligations.StepKeepsTheResultAValidFrame := by
  unfold Obligations.StepKeepsTheResultAValidFrame
  intro s t hs h
  exact step_keeps (fun s offers n hs => hs.of_resultPart_eq rfl) (fun _ _ _ => effect_keeps_resultInv) hs h

end

/-! ## R34, R228: the staging registers and the transmit port -/

namespace Sys2Proof.Machine

open Sys2Proof

/-- The state `s` with the staging registers, and the record of returned bytes that shows them, taken from `p`. -/
def restaged (p s : State) : State :=
  { s with
    regTxCat := p.regTxCat, regTxFn := p.regTxFn, regTxLen := p.regTxLen, regTxData := p.regTxData
    hostReads := p.hostReads }

theorem execAll_cons_eq_next {i : Instr} {is : List Instr} {s t : State} :
    execAll (i :: is) s = .next t ↔ ∃ m, exec i s = .next m ∧ execAll is m = .next t := by
  cases h : exec i s with
  | next m => simp [execAll, h]
  | fault r => simp [execAll, h]
  | refused r => simp [execAll, h]

theorem resynchronise_restaged (p s : State) : resynchronise (restaged p s) = restaged p (resynchronise s) := by
  cases h : dropAll s with
  | true =>
    have h' : dropAll (restaged p s) = true := h
    simp only [resynchronise, h, h']; rfl
  | false =>
    have h' : dropAll (restaged p s) = false := h
    simp only [resynchronise, h, h']; rfl

theorem noteResidual_restaged (k : Nat) (p s : State) :
    noteResidual k (restaged p s) = restaged p (noteResidual k s) := by
  by_cases h : k < s.rxBuf.length
  · have h' : k < (restaged p s).rxBuf.length := h
    simp only [noteResidual, gt_iff_lt, if_pos h, if_pos h']; rfl
  · have h' : ¬ k < (restaged p s).rxBuf.length := h
    simp only [noteResidual, gt_iff_lt, if_neg h, if_neg h']

/-- R170 reads none of the staging registers. -/
theorem evalBuffer_restaged (p s : State) : evalBuffer (restaged p s) = restaged p (evalBuffer s) := by
  have hbuf : (restaged p s).rxBuf = s.rxBuf := rfl
  cases h : tryDecode s.rxBuf with
  | incomplete => simp only [evalBuffer, hbuf, h]; rfl
  | decoded fr k => simp only [evalBuffer, hbuf, h, noteResidual_restaged]; rfl
  | invalid =>
    simp only [evalBuffer, hbuf, h]
    exact resynchronise_restaged p (setFlag .inv s)

/-- R228: a staging write reaches nothing but the staging registers. -/
theorem restaged_of_writesStaging {i : Instr} {s t : State} (h : Effect s i t) (hw : writesStaging i = true)
    (p : State) : restaged p t = restaged p s := by
  cases h with
  | wrTxCat => rfl
  | wrTxFn => rfl
  | wrTxLen => rfl
  | wrTxData => rfl
  | _ => simp [writesStaging] at hw

/-- Every instruction but SEND and the staging writes does the same from two states that differ in the staging
registers. Only RD (by what it returns) and RESET change what `p` supplies. -/
theorem effect_restaged {i : Instr} {s t : State} (h : Effect s i t) (hw : writesStaging i = false)
    (hsend : i ≠ .send) (p : State) : ∃ q, Effect (restaged p s) i (restaged q t) := by
  cases h with
  | rd a => exact ⟨returnToHost (memRead (restaged p s) a) p, .rd a⟩
  | reset => exact ⟨resetBlock p, .reset⟩
  | wrCtrl d => exact ⟨p, .wrCtrl d⟩
  | wrFlags d => exact ⟨p, .wrFlags d⟩
  | sendBusy => exact absurd rfl hsend
  | sendTooLong => exact absurd rfl hsend
  | sendLatch => exact absurd rfl hsend
  | abortOpen hopen => exact ⟨p, .abortOpen hopen⟩
  | abortIdle hidle => exact ⟨p, .abortIdle hidle⟩
  | ack => exact ⟨p, .ack⟩
  | cmdRsvd d => exact ⟨p, .cmdRsvd d⟩
  | wrTxCat => simp [writesStaging] at hw
  | wrTxFn => simp [writesStaging] at hw
  | wrTxLen => simp [writesStaging] at hw
  | wrTxData => simp [writesStaging] at hw
  | wrIgnoredStatus d => exact ⟨p, .wrIgnoredStatus d⟩
  | wrIgnoredCmdres d => exact ⟨p, .wrIgnoredCmdres d⟩
  | wrIgnoredResult a d => exact ⟨p, .wrIgnoredResult a d⟩
  | wrIgnoredGap d => exact ⟨p, .wrIgnoredGap d⟩
  | wrIgnoredUpper a d => exact ⟨p, .wrIgnoredUpper a d⟩
  | popLast hbusy hlast => exact ⟨p, .popLast hbusy hlast⟩
  | popNext hbusy hnext => exact ⟨p, .popNext hbusy hnext⟩
  | rxStray b hscan hidle => exact ⟨p, .rxStray b hscan hidle⟩
  | rxEval b hscan harmed => exact ⟨p, evalBuffer_restaged p _ ▸ .rxEval (s := restaged p s) b hscan harmed⟩
  | scan hscan => exact ⟨p, evalBuffer_restaged p _ ▸ .scan (s := restaged p s) hscan⟩
  | tickIdle hidle => exact ⟨p, .tickIdle hidle⟩
  | tickTimeout harmed hdue => exact ⟨p, .tickTimeout harmed hdue⟩
  | tickCount harmed hdue => exact ⟨p, .tickCount harmed hdue⟩

/-- The simulation along a run: whatever the staging registers hold, the run without its staging writes ends in the
same state but for them. -/
theorem execAll_without_staging {is : List Instr} {s t : State} (hsend : Instr.send ∉ is)
    (h : execAll is s = .next t) (p : State) :
    ∃ q, execAll (is.filter fun i => !writesStaging i) (restaged p s) = .next (restaged q t) := by
  induction is generalizing s p with
  | nil =>
    obtain rfl : s = t := by simpa [execAll] using h
    exact ⟨p, rfl⟩
  | cons i is ih =>
    obtain ⟨hi, his⟩ : i ≠ .send ∧ Instr.send ∉ is := by simpa [eq_comm] using hsend
    obtain ⟨m, hexec, hrun⟩ := execAll_cons_eq_next.mp h
    have heff := exec_eq_next_iff.mp hexec
    cases hw : writesStaging i with
    | true =>
      obtain ⟨q, hq⟩ := ih his hrun p
      refine ⟨q, ?_⟩
      rw [restaged_of_writesStaging heff hw] at hq
      simpa [hw] using hq
    | false =>
      obtain ⟨p', heff'⟩ := effect_restaged heff hw hi p
      obtain ⟨q, hq⟩ := ih his hrun p'
      refine ⟨q, ?_⟩
      simpa [hw] using execAll_cons_eq_next.mpr ⟨_, exec_of_effect heff', hq⟩

end Sys2Proof.Machine

section

open Sys2Proof Sys2Proof.Machine

/-- Settles O47, by the simulation `execAll_without_staging` from the state itself. -/
theorem stagingWritesDoNotReachTheTransmitPort : Obligations.StagingWritesDoNotReachTheTransmitPort := by
  unfold Obligations.StagingWritesDoNotReachTheTransmitPort
  intro is s t hsend h
  obtain ⟨q, hq⟩ := execAll_without_staging hsend h s
  exact ⟨restaged q t, hq, rfl, rfl, rfl⟩

end

/-! ## R25: the sticky flags -/

namespace Sys2Proof.Machine

open Sys2Proof

/-- The number of the bit a flag stands in (R25). -/
def flagBit : Flag → Nat
  | .inv    => 0
  | .stray  => 1
  | .ovr    => 2
  | .rej    => 3
  | .operr  => 4
  | .badcmd => 5

theorem getLsbD_flagMask (f : Flag) (k : Nat) : (flagMask f).getLsbD k = decide (k = flagBit f) := by
  have hmask : flagMask f = BitVec.twoPow 8 (flagBit f) := by cases f <;> rfl
  have hbit : flagBit f < 8 := by cases f <;> decide
  rw [hmask, BitVec.getLsbD_twoPow]
  by_cases h : flagBit f = k
  · subst h; simp [hbit]
  · simp [h, Ne.symm h]

/-- The value `b` of `FLAGS` comes from `a` by setting flags that satisfy `P`, and nothing else. -/
inductive SetFlags (P : Flag → Prop) (a : Byte) : Byte → Prop where
  | none : SetFlags P a a
  | set {b : Byte} {f : Flag} (hf : P f) (h : SetFlags P a b) : SetFlags P a (withFlag f b)

theorem getLsbD_withFlag (f : Flag) (b : Byte) (k : Nat) :
    (withFlag f b).getLsbD k = (b.getLsbD k || decide (k = flagBit f)) := by
  simp only [withFlag, BitVec.getLsbD_or, getLsbD_flagMask]

theorem SetFlags.keeps {P : Flag → Prop} {a b : Byte} (h : SetFlags P a b) {k : Nat} (hk : a.getLsbD k = true) :
    b.getLsbD k = true := by
  induction h with
  | none => exact hk
  | set _ _ ih => rw [getLsbD_withFlag, ih]; rfl

/-- A bit that rose is the bit of a flag that was set. -/
theorem SetFlags.rose {P : Flag → Prop} {a b : Byte} (h : SetFlags P a b) {k : Nat} (ha : a.getLsbD k = false)
    (hb : b.getLsbD k = true) : ∃ f, P f ∧ k = flagBit f := by
  induction h with
  | none => simp [ha] at hb
  | @set b f hf _ ih =>
    rw [getLsbD_withFlag] at hb
    rcases (Bool.or_eq_true _ _).mp hb with hold | hnew
    · exact ih hold
    · exact ⟨f, hf, of_decide_eq_true hnew⟩

theorem SetFlags.mono {P Q : Flag → Prop} {a b : Byte} (h : SetFlags P a b) (hPQ : ∀ f, P f → Q f) :
    SetFlags Q a b := by
  induction h with
  | none => exact .none
  | set hf _ ih => exact .set (hPQ _ hf) ih

/-- Flags stand in bits 0 to 5, so setting them leaves the reserved bits alone. -/
theorem SetFlags.reserved {P : Flag → Prop} {a b : Byte} (h : SetFlags P a b) : b &&& 0xC0#8 = a &&& 0xC0#8 := by
  induction h with
  | none => rfl
  | @set b f _ _ ih =>
    have hmask : flagMask f &&& 0xC0#8 = 0x00#8 := by cases f <;> rfl
    rw [withFlag, BitVec.and_comm, BitVec.and_or_distrib_left, BitVec.and_comm _ b, BitVec.and_comm _ (flagMask f),
      hmask, BitVec.or_zero, ih]

/-- The flags one evaluation of the buffer can set (R170, R171). -/
def evalRaises (s : State) (f : Flag) : Prop := f = .inv ∨ f = .stray ∨ (f = .ovr ∧ s.resKind ≠ 0x00#8)

/-- The operations R25 lists for each flag: instruction `i`, taken in state `s`, can set it. -/
def raises (i : Instr) (s : State) : Flag → Prop
  | .inv    => i = .scan ∨ ∃ b, i = .rxByte b
  | .stray  => i = .scan ∨ ∃ b, i = .rxByte b
  | .ovr    => s.resKind ≠ 0x00#8 ∧ (i = .scan ∨ (∃ b, i = .rxByte b) ∨ i = .tick ∨ i = .abort)
  | .rej    => i = .send ∧ (s.txBusy = true ∨ s.rxArmed = true)
  | .operr  => i = .send ∧ s.txBusy = false ∧ s.rxArmed = false ∧ 15 < s.regTxLen.toNat
  | .badcmd => ∃ d, i = .cmdRsvd d

theorem raises_of_evalRaises {i : Instr} {s : State} (hi : i = .scan ∨ ∃ b, i = .rxByte b) (f : Flag)
    (hf : evalRaises s f) : raises i s f := by
  rcases hf with rfl | rfl | ⟨rfl, hpending⟩
  · exact hi
  · exact hi
  · exact ⟨hpending, hi.imp_right .inl⟩

theorem setFlags_overrun {P : Flag → Prop} {a : Byte} {s : State} (hovr : s.resKind ≠ 0x00#8 → P .ovr)
    (h : SetFlags P a s.flags) : SetFlags P a (overrunFlags s) := by
  by_cases hkind : s.resKind = 0x00#8
  · rw [overrunFlags, if_pos hkind]; exact h
  · rw [overrunFlags, if_neg hkind]; exact .set (hovr hkind) h

theorem setFlags_evalBuffer (s : State) : SetFlags (evalRaises s) s.flags (evalBuffer s).flags := by
  rcases evalBuffer_cases s with ⟨_, heval⟩ | ⟨fr, k, _, heval⟩ | ⟨_, heval⟩
  · rw [heval]
    exact .none
  · rw [heval, finish_flags]
    rcases noteResidual_cases k s with ⟨_, hres⟩ | ⟨_, hres⟩
    · rw [hres]
      exact setFlags_overrun (fun hkind => .inr (.inr ⟨rfl, hkind⟩)) (.set (.inr (.inl rfl)) .none)
    · rw [hres]
      exact setFlags_overrun (fun hkind => .inr (.inr ⟨rfl, hkind⟩)) .none
  · obtain ⟨_, _, hres⟩ := resynchronise_frame (setFlag .inv s)
    rw [heval, hres]
    exact .set (.inl rfl) .none

/-- R25: what an instruction can do to `FLAGS`: RESET zeroes it, WR_FLAGS clears what is written 1, and every other
one sets flags it is listed for, if any. -/
theorem effect_flags {i : Instr} {s t : State} (h : Effect s i t) :
    (i = .reset ∧ t.flags = 0x00#8) ∨ (∃ d, i = .wrFlags d ∧ t.flags = clearedFlags d s.flags) ∨
      SetFlags (raises i s) s.flags t.flags := by
  cases h with
  | reset => exact .inl ⟨rfl, rfl⟩
  | wrFlags d => exact .inr (.inl ⟨d, rfl, rfl⟩)
  | sendBusy hopen =>
    have hbusy : s.txBusy = true ∨ s.rxArmed = true := by simpa [exchangeOpen] using hopen
    exact .inr (.inr (.set (f := .rej) ⟨rfl, hbusy⟩ .none))
  | sendTooLong hidle hlen =>
    obtain ⟨hbusy, harmed⟩ := (exchangeOpen_eq_false s).mp hidle
    exact .inr (.inr (.set (f := .operr) ⟨rfl, hbusy, harmed, hlen⟩ .none))
  | abortOpen =>
    exact .inr (.inr (setFlags_overrun (s := stopTransmit s)
      (fun hkind => ⟨hkind, .inr (.inr (.inr rfl))⟩) .none))
  | cmdRsvd d => exact .inr (.inr (.set (f := .badcmd) ⟨d, rfl⟩ .none))
  | rxStray b => exact .inr (.inr (.set (f := .stray) (.inr ⟨b, rfl⟩) .none))
  | rxEval b =>
    exact .inr (.inr ((setFlags_evalBuffer { s with rxBuf := s.rxBuf ++ [b] }).mono
      (raises_of_evalRaises (s := s) (.inr ⟨b, rfl⟩))))
  | scan => exact .inr (.inr ((setFlags_evalBuffer s).mono (raises_of_evalRaises (.inl rfl))))
  | tickTimeout =>
    exact .inr (.inr (setFlags_overrun (fun hkind => ⟨hkind, .inr (.inr (.inl rfl))⟩) .none))
  | _ => exact .inr (.inr .none)

theorem getLsbD_clearedFlags (d flags : Byte) (k : Nat) :
    (clearedFlags d flags).getLsbD k = (flags.getLsbD k && !(d.getLsbD k && (0x3F#8).getLsbD k)) := by
  by_cases hk : k < 8
  · simp [clearedFlags, hk]
  · simp [clearedFlags, BitVec.getLsbD_of_ge _ k (Nat.not_lt.mp hk)]

end Sys2Proof.Machine

section

open Sys2Proof Sys2Proof.Machine

/-- Settles O50: what is not RESET or WR_FLAGS only sets flags, and WR_FLAGS clears only bits that are written 1. -/
theorem flagsFallOnlyByTheHostOrReset : Obligations.FlagsFallOnlyByTheHostOrReset := by
  unfold Obligations.FlagsFallOnlyByTheHostOrReset
  intro i s t k h hs ht
  rcases effect_flags (exec_eq_next_iff.mp h) with ⟨hi, _⟩ | ⟨d, hi, hflags⟩ | hset
  · exact .inl hi
  · rw [hflags, getLsbD_clearedFlags, hs] at ht
    have hd : d.getLsbD k = true ∧ (0x3F#8).getLsbD k = true := by simpa using ht
    exact .inr ⟨d, hi, hd.1⟩
  · simp [hset.keeps hs] at ht

/-- Settles O51: a bit that rises is the bit of a flag that the instruction is listed for. -/
theorem flagsRiseOnlyAsListed : Obligations.FlagsRiseOnlyAsListed := by
  unfold Obligations.FlagsRiseOnlyAsListed
  intro i s t k h hs ht
  rcases effect_flags (exec_eq_next_iff.mp h) with ⟨_, hflags⟩ | ⟨d, _, hflags⟩ | hset
  · simp [hflags] at ht
  · simp [hflags, getLsbD_clearedFlags, hs] at ht
  · obtain ⟨f, hf, rfl⟩ := hset.rose hs ht
    cases f with
    | inv => exact .inl ⟨rfl, hf⟩
    | stray => exact .inr (.inl ⟨rfl, hf⟩)
    | ovr => exact .inr (.inr (.inl ⟨rfl, hf⟩))
    | rej => exact .inr (.inr (.inr (.inl ⟨rfl, hf⟩)))
    | operr => exact .inr (.inr (.inr (.inr (.inl ⟨rfl, hf⟩))))
    | badcmd => exact .inr (.inr (.inr (.inr (.inr ⟨rfl, hf⟩))))

end

/-! ## R23, R27, R30, R37: the other registers -/

namespace Sys2Proof.Machine

open Sys2Proof

theorem cmdCode_reserved (c : CmdCode) : cmdCode c &&& 0xFC#8 = 0x00#8 := by cases c <;> rfl

/-- EVAL on the registers beside the flags: `CTRL` and `CMDRES` stay, and `RES_KIND` and link health stay too or are
those of a DECODED result. -/
theorem evalBuffer_registers (s : State) :
    (evalBuffer s).ctrl = s.ctrl ∧ (evalBuffer s).cmdres = s.cmdres ∧
      (((evalBuffer s).resKind = s.resKind ∧ (evalBuffer s).linkOk = s.linkOk) ∨
        ((evalBuffer s).resKind = 0x01#8 ∧ (evalBuffer s).linkOk = true)) := by
  rcases evalBuffer_frame s with ⟨_, _, _, heval⟩ | ⟨_, _, _, _, heval⟩
  · rw [heval]; exact ⟨rfl, rfl, .inl ⟨rfl, rfl⟩⟩
  · rw [heval]; exact ⟨rfl, rfl, .inr ⟨rfl, rfl⟩⟩

/-- The instruction is one of those that write `CMDRES` (R27, R201). -/
def writesCmdres (i : Instr) : Prop := i = .send ∨ i = .abort ∨ i = .ack ∨ i = .reset ∨ ∃ d, i = .cmdRsvd d

/-- R27, R201: `CMDRES` stays, or a write to `CMD` or RESET gives it one of its codes (0 is OK). -/
theorem effect_cmdres {i : Instr} {s t : State} (h : Effect s i t) :
    t.cmdres = s.cmdres ∨ (writesCmdres i ∧ ∃ c, t.cmdres = cmdCode c) := by
  cases h with
  | sendBusy => exact .inr ⟨.inl rfl, .busy, rfl⟩
  | sendTooLong => exact .inr ⟨.inl rfl, .invalidOperand, rfl⟩
  | sendLatch => exact .inr ⟨.inl rfl, .ok, rfl⟩
  | abortOpen => exact .inr ⟨.inr (.inl rfl), .ok, rfl⟩
  | abortIdle => exact .inr ⟨.inr (.inl rfl), .ok, rfl⟩
  | ack => exact .inr ⟨.inr (.inr (.inl rfl)), .ok, rfl⟩
  | reset => exact .inr ⟨.inr (.inr (.inr (.inl rfl))), .ok, rfl⟩
  | cmdRsvd d => exact .inr ⟨.inr (.inr (.inr (.inr ⟨d, rfl⟩))), .badCmd, rfl⟩
  | rxEval b =>
    obtain ⟨_, hcmdres, _⟩ := evalBuffer_registers { s with rxBuf := s.rxBuf ++ [b] }
    exact .inl hcmdres
  | scan =>
    obtain ⟨_, hcmdres, _⟩ := evalBuffer_registers s
    exact .inl hcmdres
  | _ => exact .inl rfl

/-- R23: `CTRL` stays, or WR_CTRL or RESET gives it a value of two bits. -/
theorem effect_ctrl {i : Instr} {s t : State} (h : Effect s i t) :
    t.ctrl = s.ctrl ∨ ∃ d, t.ctrl = d &&& 0x03#8 := by
  cases h with
  | wrCtrl d => exact .inr ⟨d, rfl⟩
  | reset => exact .inr ⟨0x00#8, rfl⟩
  | rxEval b =>
    obtain ⟨hctrl, _⟩ := evalBuffer_registers { s with rxBuf := s.rxBuf ++ [b] }
    exact .inl hctrl
  | scan =>
    obtain ⟨hctrl, _⟩ := evalBuffer_registers s
    exact .inl hctrl
  | _ => exact .inl rfl

/-- R30, R37, R202: `RES_KIND` and link health stay, or a result, ACK or RESET writes them. -/
theorem effect_result {i : Instr} {s t : State} (h : Effect s i t) :
    (t.resKind = s.resKind ∧ t.linkOk = s.linkOk) ∨
    (t.resKind = 0x01#8 ∧ t.linkOk = true ∧ (i = .scan ∨ ∃ b, i = .rxByte b)) ∨
    (t.resKind = 0x02#8 ∧ t.linkOk = false ∧ i = .tick) ∨
    (t.resKind = 0x03#8 ∧ t.linkOk = s.linkOk ∧ i = .abort) ∨
    (t.resKind = 0x00#8 ∧ t.linkOk = s.linkOk ∧ i = .ack) ∨
    (t.resKind = 0x00#8 ∧ t.linkOk = false ∧ i = .reset) := by
  cases h with
  | rxEval b =>
    obtain ⟨_, _, hsame | ⟨hkind, hlink⟩⟩ := evalBuffer_registers { s with rxBuf := s.rxBuf ++ [b] }
    · exact .inl hsame
    · exact .inr (.inl ⟨hkind, hlink, .inr ⟨b, rfl⟩⟩)
  | scan =>
    obtain ⟨_, _, hsame | ⟨hkind, hlink⟩⟩ := evalBuffer_registers s
    · exact .inl hsame
    · exact .inr (.inl ⟨hkind, hlink, .inl rfl⟩)
  | tickTimeout => exact .inr (.inr (.inl ⟨rfl, rfl, rfl⟩))
  | abortOpen => exact .inr (.inr (.inr (.inl ⟨rfl, rfl, rfl⟩)))
  | ack => exact .inr (.inr (.inr (.inr (.inl ⟨rfl, rfl, rfl⟩))))
  | reset => exact .inr (.inr (.inr (.inr (.inr ⟨rfl, rfl, rfl⟩))))
  | _ => exact .inl ⟨rfl, rfl⟩

theorem effect_keeps_reserved_ctrl {i : Instr} {s t : State} (hs : s.ctrl &&& 0xFC#8 = 0x00#8)
    (h : Effect s i t) : t.ctrl &&& 0xFC#8 = 0x00#8 := by
  rcases effect_ctrl h with hsame | ⟨d, hctrl⟩
  · rw [hsame, hs]
  · rw [hctrl, BitVec.and_assoc]
    exact BitVec.and_zero

theorem effect_keeps_reserved_flags {i : Instr} {s t : State} (hs : s.flags &&& 0xC0#8 = 0x00#8)
    (h : Effect s i t) : t.flags &&& 0xC0#8 = 0x00#8 := by
  rcases effect_flags h with ⟨_, hflags⟩ | ⟨d, _, hflags⟩ | hset
  · rw [hflags]; rfl
  · rw [hflags, clearedFlags, BitVec.and_assoc, BitVec.and_comm (~~~_), ← BitVec.and_assoc, hs]
    exact BitVec.zero_and
  · rw [hset.reserved, hs]

theorem effect_keeps_reserved_cmdres {i : Instr} {s t : State} (hs : s.cmdres &&& 0xFC#8 = 0x00#8)
    (h : Effect s i t) : t.cmdres &&& 0xFC#8 = 0x00#8 := by
  rcases effect_cmdres h with hsame | ⟨_, c, hcmdres⟩
  · rw [hsame, hs]
  · rw [hcmdres, cmdCode_reserved]

theorem effect_keeps_reserved_resKind {i : Instr} {s t : State} (hs : s.resKind &&& 0xFC#8 = 0x00#8)
    (h : Effect s i t) : t.resKind &&& 0xFC#8 = 0x00#8 := by
  rcases effect_result h with ⟨hkind, _⟩ | ⟨hkind, _⟩ | ⟨hkind, _⟩ | ⟨hkind, _⟩ | ⟨hkind, _⟩ | ⟨hkind, _⟩
  · rw [hkind, hs]
  all_goals rw [hkind]; rfl

theorem effect_keeps_reservedBitsZero {i : Instr} {s t : State} (hs : ReservedBitsZero s) (h : Effect s i t) :
    ReservedBitsZero t where
  ctrl := effect_keeps_reserved_ctrl hs.ctrl h
  flags := effect_keeps_reserved_flags hs.flags h
  cmdres := effect_keeps_reserved_cmdres hs.cmdres h
  resKind := effect_keeps_reserved_resKind hs.resKind h

end Sys2Proof.Machine

section

open Sys2Proof Sys2Proof.Machine

/-- Settles O37, register by register. -/
theorem stepKeepsReservedBitsZero : Obligations.StepKeepsReservedBitsZero := by
  unfold Obligations.StepKeepsReservedBitsZero
  intro s t hs h
  exact step_keeps (fun s offers n hs => ⟨hs.ctrl, hs.flags, hs.cmdres, hs.resKind⟩)
    (fun _ _ _ => effect_keeps_reservedBitsZero) hs h

/-- Settles O52. -/
theorem cmdresChangesOnlyByCommands : Obligations.CmdresChangesOnlyByCommands := by
  unfold Obligations.CmdresChangesOnlyByCommands
  intro i s t h hne
  rcases effect_cmdres (exec_eq_next_iff.mp h) with hsame | ⟨hwrites, _⟩
  · exact absurd hsame hne
  · exact hwrites

/-- Settles O53: of the results, CANCELLED and an acknowledgement leave link health as it is. -/
theorem linkHealthFollowsTheResults : Obligations.LinkHealthFollowsTheResults := by
  unfold Obligations.LinkHealthFollowsTheResults
  intro i s t h hne
  rcases effect_result (exec_eq_next_iff.mp h) with ⟨_, hsame⟩ | ⟨hkind, hlink, hi⟩ | ⟨hkind, hlink, hi⟩ |
    ⟨_, hsame, _⟩ | ⟨_, hsame, _⟩ | ⟨_, hlink, hi⟩
  · exact absurd hsame hne
  · exact .inl ⟨hlink, hkind, hi⟩
  · exact .inr (.inl ⟨hlink, hkind, hi⟩)
  · exact absurd hsame hne
  · exact absurd hsame hne
  · exact .inr (.inr ⟨hlink, hi⟩)

end

/-! ## R24, R38: STATUS and the outputs -/

namespace Sys2Proof.Machine

open Sys2Proof

theorem resultPending_eq_decide (s : State) : resultPending s = decide (s.resKind ≠ 0x00#8) := by
  simp [resultPending, bne, Bool.beq_eq_decide_eq]

/-- A bit put behind a vector is its bit 0 and moves the others up by one. -/
theorem getLsbD_append_ofBool {w : Nat} (x : BitVec w) (b : Bool) (k : Nat) :
    (x ++ BitVec.ofBool b).getLsbD k = if k = 0 then b else x.getLsbD (k - 1) := by
  rw [BitVec.getLsbD_append]
  cases k with
  | zero => simp
  | succ k => simp

/-- R24: the bits of `STATUS`, read off the concatenation that defines it from the right. -/
theorem getLsbD_status (s : State) :
    (status s).getLsbD 0 = s.txBusy ∧ (status s).getLsbD 1 = s.rxArmed ∧ (status s).getLsbD 2 = s.scan ∧
    (status s).getLsbD 3 = s.linkOk ∧ (status s).getLsbD 4 = resultPending s ∧ (status s).getLsbD 5 = irq s ∧
    (status s).getLsbD 6 = false ∧ (status s).getLsbD 7 = false := by
  have hlast (k : Nat) : (status s).getLsbD k = _ := getLsbD_append_ofBool _ s.txBusy k
  simp only [hlast, getLsbD_append_ofBool]
  simp

theorem txByte_eq_getElem {s : State} (h : s.txIdx.toNat < 18) : txByte s = s.txBuf[s.txIdx.toNat] := by
  simp only [txByte, dif_pos h]

end Sys2Proof.Machine

section

open Sys2Proof Sys2Proof.Machine

/-- Settles O15. -/
theorem statusBitsReportTheState : Obligations.StatusBitsReportTheState := by
  unfold Obligations.StatusBitsReportTheState
  refine ⟨fun s => ?_, rfl⟩
  rw [← resultPending_eq_decide]
  exact getLsbD_status s

/-- Settles O16. -/
theorem outputsAreFunctionsOfState : Obligations.OutputsAreFunctionsOfState := by
  unfold Obligations.OutputsAreFunctionsOfState
  refine ⟨fun s => ⟨rfl, fun h => txByte_eq_getElem h, rfl, ?_⟩, rfl, rfl, rfl, rfl⟩
  rw [← resultPending_eq_decide]
  rfl

end

/-! ## R52, R146: the reserved space of the register map -/

namespace Sys2Proof.Machine

open Sys2Proof

theorem reservedAddress_iff (a : HostAddr) :
    reservedAddress a = true ↔ a.toNat = 0x0E ∨ a.toNat = 0x0F ∨ a.toNat = 0x1F ∨ 0x2F ≤ a.toNat := by
  simp [reservedAddress, or_assoc]

theorem ignoresWrites_iff (a : HostAddr) :
    ignoresWrites a = true ↔ a.toNat = 0x01 ∨ a.toNat = 0x04 ∨ (0x08 ≤ a.toNat ∧ a.toNat ≤ 0x0F) ∨
      a.toNat = 0x1F ∨ 0x20 ≤ a.toNat := by
  simp [ignoresWrites, or_assoc]

theorem ignoresWrites_of_reserved {a : HostAddr} (h : reservedAddress a = true) : ignoresWrites a = true := by
  rw [reservedAddress_iff] at h
  rw [ignoresWrites_iff]
  omega

/-! ### Reads -/

/-- A reserved address is none of the single registers 0x00 to 0x0D and lies outside both operand arrays. -/
theorem memRead_of_reserved (s : State) {a : HostAddr} (h : reservedAddress a = true) : memRead s a = 0x00#8 := by
  rw [reservedAddress_iff] at h
  have hreg (c : HostAddr) (hc : c.toNat ≤ 0x0D) : a ≠ c := by
    rintro rfl
    omega
  have htx : ¬ (0x10 ≤ a.toNat ∧ a.toNat ≤ 0x1E) := by omega
  have hrx : ¬ (0x20 ≤ a.toNat ∧ a.toNat ≤ 0x2E) := by omega
  simp (disch := decide) only [memRead, hreg, htx, hrx, if_false, dif_neg]

/-- A register read through the mask `m` reads 0 in every bit outside it. -/
theorem and_and_eq_zero_of_disjoint {m r : Byte} (hdisj : m &&& r = 0x00#8) (x : Byte) : x &&& m &&& r = 0x00#8 := by
  rw [BitVec.and_assoc, hdisj]
  exact BitVec.and_zero

/-- R24: bits 6 and 7 of `STATUS` are reserved. -/
theorem status_reserved (s : State) : status s &&& 0xC0#8 = 0x00#8 := by
  obtain ⟨_, _, _, _, _, _, hbit6, hbit7⟩ := getLsbD_status s
  apply BitVec.eq_of_getLsbD_eq
  intro k hk
  rw [BitVec.getLsbD_and]
  rcases (by omega : k < 6 ∨ k = 6 ∨ k = 7) with hlow | rfl | rfl
  · have hmask : (0xC0#8).getLsbD k = false := by interval_cases k <;> rfl
    rw [hmask, Bool.and_false, BitVec.getLsbD_zero]
  · rw [hbit6]
    rfl
  · rw [hbit7]
    rfl

/-! ### Writes -/

theorem extractLsb'_four_two_eq_one_iff (a : HostAddr) :
    a.extractLsb' 4 2 = 0b01#2 ↔ 0x10 ≤ a.toNat ∧ a.toNat ≤ 0x1F := by
  have := a.isLt
  simp only [BitVec.toNat_eq, BitVec.extractLsb'_toNat, Nat.shiftRight_eq_div_pow, BitVec.toNat_ofNat]
  omega

/-- R80, R146: each address whose writes are ignored is in one of the five WR_IGNORED rows. -/
theorem mnemonic_decodeWrite_of_ignoresWrites {a : HostAddr} (d : Byte) (h : ignoresWrites a = true) :
    (decodeWrite a d).mnemonic = "WR_IGNORED" := by
  have hreg (c : HostAddr) (hc : ignoresWrites c = false) : a ≠ c := by
    rintro rfl
    simp [h] at hc
  by_cases hgap : a = 0x1F#6
  · rw [hgap]
    rfl
  · have hdata : a.extractLsb' 4 2 ≠ 0b01#2 := by
      rw [ignoresWrites_iff] at h
      rw [BitVec.toNat_eq, BitVec.toNat_ofNat] at hgap
      rw [ne_eq, extractLsb'_four_two_eq_one_iff]
      omega
    simp (disch := decide) only [decodeWrite, hreg, if_false, if_neg hgap, if_neg hdata]
    split_ifs <;> rfl

/-- R146: what a WR_IGNORED row stands for changes nothing. -/
theorem exec_eq_self_of_ignored {i : Instr} (h : i.mnemonic = "WR_IGNORED") (s : State) : exec i s = .next s := by
  cases i with
  | wrIgnoredStatus | wrIgnoredCmdres | wrIgnoredResult | wrIgnoredGap | wrIgnoredUpper => rfl
  | _ => simp [Instr.mnemonic] at h

theorem exec_decode_of_ignoresWrites {a : HostAddr} (d : Byte) (s : State) (h : ignoresWrites a = true) :
    exec (decode (.host (hostWriteWord a d))) s = .next s := by
  rw [decode_hostWriteWord]
  exact exec_eq_self_of_ignored (mnemonic_decodeWrite_of_ignoresWrites d h) s

/-- R52, R142: the reserved bits of what is written to `CTRL` are dropped. -/
theorem exec_wrCtrl_masked (d : Byte) (s : State) : exec (.wrCtrl (d &&& 0x03#8)) s = exec (.wrCtrl d) s := by
  simp only [exec, execWrCtrl, BitVec.and_assoc, BitVec.and_self]

/-- R52, R143: ones written to the reserved bits of `FLAGS` clear nothing. -/
theorem exec_wrFlags_masked (d : Byte) (s : State) : exec (.wrFlags (d &&& 0x3F#8)) s = exec (.wrFlags d) s := by
  simp only [exec, execWrFlags, clearedFlags, BitVec.and_assoc, BitVec.and_self]

end Sys2Proof.Machine

section

open Sys2Proof Sys2Proof.Machine

/-- Settles O17: the reserved addresses are among those whose writes are ignored, and each masked register is read
through a mask that misses its reserved bits. -/
theorem reservedSpaceIsInert : Obligations.ReservedSpaceIsInert := by
  unfold Obligations.ReservedSpaceIsInert
  refine ⟨fun a d s h => ?_, fun s => ?_, fun d s => ?_⟩
  · exact ⟨memRead_of_reserved s h, exec_decode_of_ignoresWrites d s (ignoresWrites_of_reserved h)⟩
  · exact ⟨and_and_eq_zero_of_disjoint rfl s.ctrl, status_reserved s, and_and_eq_zero_of_disjoint rfl s.flags,
      and_and_eq_zero_of_disjoint rfl s.cmdres, and_and_eq_zero_of_disjoint rfl s.resKind⟩
  · exact ⟨(exec_wrCtrl_masked d s).symm, (exec_wrFlags_masked d s).symm⟩

end

/-! ## R78 to R80: every step as the encoding of a well-formed instruction -/

namespace Sys2Proof.Machine

open Sys2Proof

/-! ### Appended bit vectors -/

theorem toNat_append_eq_add {m n : Nat} (p : BitVec m) (i : BitVec n) :
    (p ++ i).toNat = p.toNat * 2 ^ n + i.toNat := by
  rw [BitVec.toNat_append, ← Nat.shiftLeft_add_eq_or_of_lt i.isLt, Nat.shiftLeft_eq]

theorem extractLsb'_append_high {m n : Nat} (p : BitVec m) (i : BitVec n) : (p ++ i).extractLsb' n m = p := by
  ext k hk
  simp [BitVec.getLsbD_append, BitVec.getLsbD_eq_getElem hk]

theorem extractLsb'_append_low {m n : Nat} (p : BitVec m) (i : BitVec n) : (p ++ i).extractLsb' 0 n = i := by
  ext k hk
  simp [BitVec.getLsbD_append, hk]

theorem exists_eq_append {m n : Nat} {a : BitVec (m + n)} {p : BitVec m} (h : a.toNat / 2 ^ n = p.toNat) :
    ∃ i : BitVec n, a = p ++ i := by
  have hp : a.extractLsb' n m = p := by
    apply BitVec.eq_of_toNat_eq
    rw [BitVec.extractLsb'_toNat, Nat.shiftRight_eq_div_pow, h, Nat.mod_eq_of_lt p.isLt]
  exact ⟨a.extractLsb' 0 n, by rw [← hp, BitVec.extractLsb'_append_extractLsb']⟩

theorem extractLsb'_one_eq_ofBool {n : Nat} (w : BitVec n) (k : Nat) :
    w.extractLsb' k 1 = BitVec.ofBool (w.getLsbD k) := by
  ext i hi
  obtain rfl : i = 0 := by omega
  simp

/-! ### Words by their fields -/

/-- R78: the three fields fill the word. -/
theorem hostWord_eq_append_fields (w : HostWord) : w = BitVec.ofBool (fieldW w) ++ fieldA w ++ fieldD w := by
  rw [fieldW, fieldA, fieldD, ← extractLsb'_one_eq_ofBool,
    BitVec.extractLsb'_append_extractLsb'_eq_extractLsb' (rfl : 14 = 8 + 6),
    BitVec.extractLsb'_append_extractLsb'_eq_extractLsb' (rfl : 8 = 0 + 8)]
  exact BitVec.extractLsb'_eq_self.symm

theorem hostWord_ext_iff {v w : HostWord} :
    v = w ↔ fieldW v = fieldW w ∧ fieldA v = fieldA w ∧ fieldD v = fieldD w := by
  refine ⟨by rintro rfl; exact ⟨rfl, rfl, rfl⟩, fun ⟨hW, hA, hD⟩ => ?_⟩
  rw [hostWord_eq_append_fields v, hW, hA, hD, ← hostWord_eq_append_fields]

theorem eq_hostWriteWord {w : HostWord} (h : fieldW w = true) : w = hostWriteWord (fieldA w) (fieldD w) := by
  simp [hostWord_ext_iff, h]

theorem fieldW_and (v w : HostWord) : fieldW (v &&& w) = (fieldW v && fieldW w) := BitVec.getLsbD_and
theorem fieldA_and (v w : HostWord) : fieldA (v &&& w) = fieldA v &&& fieldA w := BitVec.extractLsb'_and
theorem fieldD_and (v w : HostWord) : fieldD (v &&& w) = fieldD v &&& fieldD w := BitVec.extractLsb'_and

/-! ### The address ranges of R80 -/

/-- R80, R146: the addresses of the rows with W = 1, single registers first. -/
theorem hostAddr_cases (a : HostAddr) :
    (a = 0x00#6 ∨ a = 0x01#6 ∨ a = 0x02#6 ∨ a = 0x03#6 ∨ a = 0x04#6 ∨ a = 0x05#6 ∨ a = 0x06#6 ∨ a = 0x07#6) ∨
    (∃ i : BitVec 3, a = 0b001#3 ++ i) ∨ (∃ i : BitVec 4, a = 0b01#2 ++ i) ∨ (∃ i : BitVec 5, a = 1#1 ++ i) := by
  have ha := a.isLt
  rcases (by omega : a.toNat < 0x08 ∨ a.toNat / 2 ^ 3 = 1 ∨ a.toNat / 2 ^ 4 = 1 ∨ a.toNat / 2 ^ 5 = 1) with
    h | h | h | h
  · left
    simp only [BitVec.toNat_eq, BitVec.toNat_ofNat]
    omega
  · exact .inr (.inl (exists_eq_append h))
  · exact .inr (.inr (.inl (exists_eq_append h)))
  · exact .inr (.inr (.inr (exists_eq_append h)))

/-! ### The decoder at the addresses of the rows that span several -/

theorem extractLsb'_three_three_eq_one_iff (a : HostAddr) :
    a.extractLsb' 3 3 = 0b001#3 ↔ 0x08 ≤ a.toNat ∧ a.toNat ≤ 0x0F := by
  have := a.isLt
  simp only [BitVec.toNat_eq, BitVec.extractLsb'_toNat, Nat.shiftRight_eq_div_pow, BitVec.toNat_ofNat]
  omega

theorem hostAddr_ne_of_lt {a c : HostAddr} (h : c.toNat < a.toNat) : a ≠ c := by
  rintro rfl
  exact lt_irrefl _ h

/-- Above the single registers only the rows that span several addresses, and 0x1F, are left. -/
theorem decodeWrite_of_ge {a : HostAddr} (d : Byte) (h : 0x08 ≤ a.toNat) :
    decodeWrite a d =
      if a.extractLsb' 3 3 = 0b001#3 then .wrIgnoredResult (a.extractLsb' 0 3) d
      else if a = 0x1F#6 then .wrIgnoredGap d
      else if a.extractLsb' 4 2 = 0b01#2 then .wrTxData (a.extractLsb' 0 4) d
      else .wrIgnoredUpper (a.extractLsb' 0 5) d := by
  have hlow (c : HostAddr) (hc : c.toNat < 0x08) : a ≠ c := hostAddr_ne_of_lt (lt_of_lt_of_le hc h)
  simp (disch := decide) only [decodeWrite, hlow, if_false]

theorem decodeWrite_result (i : BitVec 3) (d : Byte) : decodeWrite (0b001#3 ++ i) d = .wrIgnoredResult i d := by
  have ha : (0b001#3 ++ i : HostAddr).toNat = 0x08 + i.toNat := toNat_append_eq_add _ _
  rw [decodeWrite_of_ge d (by omega), if_pos (extractLsb'_append_high _ i), extractLsb'_append_low]

theorem decodeWrite_data {i : BitVec 4} (hi : i ≠ 15#4) (d : Byte) :
    decodeWrite (0b01#2 ++ i) d = .wrTxData i d := by
  have ha : (0b01#2 ++ i : HostAddr).toNat = 0x10 + i.toNat := toNat_append_eq_add _ _
  have hresult : (0b01#2 ++ i : HostAddr).extractLsb' 3 3 ≠ 0b001#3 := by
    rw [ne_eq, extractLsb'_three_three_eq_one_iff]
    omega
  have hgap : (0b01#2 ++ i : HostAddr) ≠ 0x1F#6 := by
    rw [ne_eq, BitVec.toNat_eq, BitVec.toNat_ofNat] at hi ⊢
    omega
  rw [decodeWrite_of_ge d (by omega), if_neg hresult, if_neg hgap, if_pos (extractLsb'_append_high _ i),
    extractLsb'_append_low]

theorem decodeWrite_upper (i : BitVec 5) (d : Byte) : decodeWrite (1#1 ++ i) d = .wrIgnoredUpper i d := by
  have ha : (1#1 ++ i : HostAddr).toNat = 0x20 + i.toNat := toNat_append_eq_add _ _
  have hresult : (1#1 ++ i : HostAddr).extractLsb' 3 3 ≠ 0b001#3 := by
    rw [ne_eq, extractLsb'_three_three_eq_one_iff]
    omega
  have hgap : (1#1 ++ i : HostAddr) ≠ 0x1F#6 := hostAddr_ne_of_lt (by rw [ha]; simp; omega)
  have hdata : (1#1 ++ i : HostAddr).extractLsb' 4 2 ≠ 0b01#2 := by
    rw [ne_eq, extractLsb'_four_two_eq_one_iff]
    omega
  rw [decodeWrite_of_ge d (by omega), if_neg hresult, if_neg hgap, if_neg hdata, extractLsb'_append_low]

theorem decodeCommand_of_ne {d : Byte} (h1 : d ≠ 0x01#8) (h2 : d ≠ 0x02#8) (h3 : d ≠ 0x03#8) :
    decodeCommand d = .cmdRsvd d := by
  rw [decodeCommand, if_neg h1, if_neg h2, if_neg h3]

/-! ### The round trip -/

theorem decode_encode {i : Instr} (h : i.WellFormed) : decode (encode i) = i := by
  cases i with
  | rd a => exact decode_hostReadWord a
  | cmdRsvd d =>
    obtain ⟨⟨h1, h2⟩, h3⟩ : (d ≠ 0x01#8 ∧ d ≠ 0x02#8) ∧ d ≠ 0x03#8 := by simpa [Instr.WellFormed, Instr.wf] using h
    exact (decode_hostWriteWord _ d).trans (decodeCommand_of_ne h1 h2 h3)
  | wrTxData i d =>
    have hi : i ≠ 15#4 := by simpa [Instr.WellFormed, Instr.wf] using h
    exact (decode_hostWriteWord _ d).trans (decodeWrite_data hi d)
  | wrIgnoredResult i d => exact (decode_hostWriteWord _ d).trans (decodeWrite_result i d)
  | wrIgnoredUpper i d => exact (decode_hostWriteWord _ d).trans (decodeWrite_upper i d)
  | txPop | rxByte | scan | tick | reset => rfl
  | _ => exact decode_hostWriteWord _ _

/-- R80: a write of any address and data is what some well-formed instruction is offered as. -/
theorem exists_encode_eq_hostWriteWord (a : HostAddr) (d : Byte) :
    ∃ i : Instr, i.WellFormed ∧ encode i = .host (hostWriteWord a d) := by
  rcases hostAddr_cases a with (rfl | rfl | rfl | rfl | rfl | rfl | rfl | rfl) | ⟨i, rfl⟩ | ⟨i, rfl⟩ | ⟨i, rfl⟩
  · exact ⟨.wrCtrl d, rfl, rfl⟩
  · exact ⟨.wrIgnoredStatus d, rfl, rfl⟩
  · exact ⟨.wrFlags d, rfl, rfl⟩
  · by_cases h1 : d = 0x01#8
    · exact ⟨.send, rfl, by rw [h1]; rfl⟩
    by_cases h2 : d = 0x02#8
    · exact ⟨.abort, rfl, by rw [h2]; rfl⟩
    by_cases h3 : d = 0x03#8
    · exact ⟨.ack, rfl, by rw [h3]; rfl⟩
    exact ⟨.cmdRsvd d, by simp [Instr.WellFormed, Instr.wf, h1, h2, h3], rfl⟩
  · exact ⟨.wrIgnoredCmdres d, rfl, rfl⟩
  · exact ⟨.wrTxCat d, rfl, rfl⟩
  · exact ⟨.wrTxFn d, rfl, rfl⟩
  · exact ⟨.wrTxLen d, rfl, rfl⟩
  · exact ⟨.wrIgnoredResult i d, rfl, rfl⟩
  · by_cases hi : i = 15#4
    · exact ⟨.wrIgnoredGap d, rfl, by rw [hi]; rfl⟩
    · exact ⟨.wrTxData i d, by simp [Instr.WellFormed, Instr.wf, hi], rfl⟩
  · exact ⟨.wrIgnoredUpper i d, rfl, rfl⟩

/-- R80: every write word is the encoding of a well-formed instruction, the one it decodes to. -/
theorem exists_encode_eq_of_fieldW {w : HostWord} (h : fieldW w = true) :
    ∃ i : Instr, i.WellFormed ∧ encode i = .host w ∧ decode (.host w) = i := by
  obtain ⟨i, hi, henc⟩ := exists_encode_eq_hostWriteWord (fieldA w) (fieldD w)
  rw [← eq_hostWriteWord h] at henc
  exact ⟨i, hi, henc, henc ▸ decode_encode hi⟩

theorem decode_of_fieldW_eq_false {w : HostWord} (h : fieldW w = false) : decode (.host w) = .rd (fieldA w) := by
  simp [decode, decodeHost, h]

theorem decode_wellFormed (r : RawStep) : (decode r).WellFormed := by
  cases r with
  | host w =>
    cases hW : fieldW w with
    | false => rw [decode_of_fieldW_eq_false hW]; rfl
    | true =>
      obtain ⟨i, hi, _, hdec⟩ := exists_encode_eq_of_fieldW hW
      rwa [hdec]
  | _ => rfl

/-- R78: the bits a read ignores are cleared by the mask 0x3F00, and W is 0 already. -/
theorem hostReadWord_fieldA {w : HostWord} (h : fieldW w = false) : hostReadWord (fieldA w) = w &&& 0x3F00#15 := by
  have hA : fieldA 0x3F00#15 = BitVec.allOnes 6 := rfl
  have hD : fieldD 0x3F00#15 = 0#8 := rfl
  have hread : fieldD (hostReadWord (fieldA w)) = 0#8 := extractLsb'_append_low _ _
  rw [hostWord_ext_iff, fieldW_and, fieldA_and, fieldD_and, h, hA, hD, hread]
  simp only [fieldW_hostReadWord, fieldA_hostReadWord, Bool.false_and, BitVec.and_allOnes, BitVec.and_zero, and_self]

/-! ### Formats -/

/-- R79: every instruction is offered in the format of its row. -/
theorem format_encode (i : Instr) : (encode i).format = i.format := by
  cases i with
  | rd a => exact Laws.EncodedFormat.rd a
  | txPop | rxByte | scan | tick | reset => rfl
  | _ => exact Laws.EncodedFormat.format_hostWriteWord _ _

theorem format_decode (r : RawStep) : (decode r).format = r.format := by
  cases r with
  | host w =>
    cases hW : fieldW w with
    | false => simp [decode_of_fieldW_eq_false hW, RawStep.format, hW, Instr.format]
    | true =>
      obtain ⟨i, _, henc, hdec⟩ := exists_encode_eq_of_fieldW hW
      rw [hdec, ← henc, format_encode]
  | _ => rfl

/-! ### Taking what is enabled -/

/-- R177: whatever is enabled has an effect. -/
theorem exists_exec_of_enabled {i : Instr} {s : State} (h : enabled i s = true) : ∃ t, exec i s = .next t := by
  cases i with
  | send => exact (effect_send s).imp fun _ => exec_of_effect
  | txPop => exact (effect_txPop h).imp fun _ => exec_of_effect
  | rxByte b => exact (effect_rxByte b (by simpa [enabled, rxReady] using h)).imp fun _ => exec_of_effect
  | scan => exact ⟨_, exec_of_effect (.scan h)⟩
  | _ => exact ⟨_, rfl⟩

/-- An enabled offer that stands first is the next step. -/
theorem step_holdOffer {r : RawStep} {s : State} (h : enabled (decode r) s = true) :
    step (holdOffer r s) = exec (decode r) s := by
  have hnext : nextOffer (holdOffer r s) = (r, s) := rfl
  simp only [step, scheduled, hnext, resolveOffer, h, if_true]

end Sys2Proof.Machine

section

open Sys2Proof Sys2Proof.Machine

/-- Settles O3: row by row, `decode_encode`. -/
theorem decodeOfEncodeIsTheInstruction : Obligations.DecodeOfEncodeIsTheInstruction := by
  unfold Obligations.DecodeOfEncodeIsTheInstruction
  exact fun i => decode_encode

/-- Settles O4: a write word is the encoding of some well-formed instruction, which the round trip gives back. -/
theorem encodeOfDecodeIsTheStep : Obligations.EncodeOfDecodeIsTheStep := by
  unfold Obligations.EncodeOfDecodeIsTheStep
  refine ⟨fun w hW => ?_, fun w hW => ?_, fun b => rfl, ?_⟩
  · obtain ⟨i, _, henc, hdec⟩ := exists_encode_eq_of_fieldW hW
    rw [hdec, henc]
  · rw [decode_of_fieldW_eq_false hW, encode, hostReadWord_fieldA hW]
  · rintro r (rfl | rfl | rfl | rfl) <;> rfl

/-- Settles O5: every host operation is enabled, and what is enabled has a next state. -/
theorem everyOfferDecodesInItsFormat : Obligations.EveryOfferDecodesInItsFormat := by
  unfold Obligations.EveryOfferDecodesInItsFormat
  exact ⟨fun r => ⟨decode_wellFormed r, format_decode r⟩, fun w s => exists_exec_of_enabled (enabled_host w s)⟩

/-- Settles O33: the word or byte is an enabled offer that stands first. -/
theorem fetchedWordIsTheNextStep : Obligations.FetchedWordIsTheNextStep := by
  unfold Obligations.FetchedWordIsTheNextStep
  refine ⟨fun s w hw => ?_, fun s w hw hscan => ?_⟩
  · have hraw : RawStep.ofTableWord 16 w = .ok (.host (BitVec.ofNat 15 w)) := by
      rw [RawStep.ofTableWord, if_pos (by decide), if_pos hw]
    simp only [decodeTableWord, State.withFetchWord, offerFirst, hraw]
    exact ⟨trivial, step_holdOffer (enabled_host _ s)⟩
  · have hraw : RawStep.ofTableWord 8 w = .ok (.rxPort (BitVec.ofNat 8 w)) := by
      rw [RawStep.ofTableWord, if_neg (by decide), if_pos rfl, if_pos hw]
    simp only [decodeTableWord, State.withFetchWord, offerFirst, hraw]
    exact ⟨rfl, step_holdOffer (by simp [decode, enabled, rxReady, hscan])⟩

end

/-! ## R78, R80: the numbers of host words and the opcode table -/

namespace Sys2Proof.Machine

open Sys2Proof

/-! ### The numbers of host words -/

theorem toNat_fieldA (w : HostWord) : (fieldA w).toNat = w.toNat / 2 ^ 8 % 2 ^ 6 := by
  rw [fieldA, BitVec.extractLsb'_toNat, Nat.shiftRight_eq_div_pow]

theorem toNat_fieldD (w : HostWord) : (fieldD w).toNat = w.toNat % 2 ^ 8 := by
  rw [fieldD, BitVec.extractLsb'_toNat, Nat.shiftRight_zero]

theorem toNat_hostWriteWord (a : HostAddr) (v : Byte) :
    (hostWriteWord a v).toNat = 0x4000 ||| (a.toNat <<< 8) ||| v.toNat := by
  rw [hostWriteWord, BitVec.toNat_append, BitVec.toNat_append, Nat.shiftLeft_or_distrib]
  rfl

theorem toNat_hostReadWord (a : HostAddr) : (hostReadWord a).toNat = a.toNat <<< 8 := by
  rw [hostReadWord, BitVec.toNat_append, BitVec.toNat_append]
  simp

/-! ### The opcode table -/

/-- R80: the words of SEND, ABORT and ACK, the only ones told apart by their data. -/
def commandWords : List HostWord := [0x4301#15, 0x4302#15, 0x4303#15]

theorem hostWriteWord_mem_commandWords_iff (a : HostAddr) (d : Byte) :
    hostWriteWord a d ∈ commandWords ↔ a = 0x03#6 ∧ (d = 0x01#8 ∨ d = 0x02#8 ∨ d = 0x03#8) := by
  have hword (n : Byte) : hostWriteWord a d = hostWriteWord 0x03#6 n ↔ a = 0x03#6 ∧ d = n := by
    simp [hostWord_ext_iff]
  have hlist : commandWords =
      [hostWriteWord 0x03#6 0x01#8, hostWriteWord 0x03#6 0x02#8, hostWriteWord 0x03#6 0x03#8] := rfl
  simp only [hlist, List.mem_cons, List.not_mem_nil, or_false, hword, and_or_left]

/-- Every pattern of the table, of a row or of its excluded words, reads no data bit or is one command word whole. -/
theorem opcodeRows_patterns : ∀ r ∈ opcodeRows, ∀ e ∈ (r.bits, r.mask) :: r.excludes,
    fieldD e.2 = 0x00#8 ∨ (e.2 = 0x7FFF#15 ∧ e.1 ∈ commandWords) := by
  intro r hr
  fin_cases hr <;> simp [fieldD, commandWords]

theorem and_mask_eq_congr {v w bits mask : HostWord} (hW : fieldW v = fieldW w) (hA : fieldA v = fieldA w)
    (hv : v ∉ commandWords) (hw : w ∉ commandWords)
    (h : fieldD mask = 0x00#8 ∨ (mask = 0x7FFF#15 ∧ bits ∈ commandWords)) :
    v &&& mask = bits ↔ w &&& mask = bits := by
  rcases h with hD | ⟨rfl, hbits⟩
  · simp only [hostWord_ext_iff, fieldW_and, fieldA_and, fieldD_and, hW, hA, hD, BitVec.and_zero]
  · have hones : 0x7FFF#15 = BitVec.allOnes 15 := rfl
    rw [hones, BitVec.and_allOnes, BitVec.and_allOnes]
    exact iff_of_false (fun h => hv (h ▸ hbits)) (fun h => hw (h ▸ hbits))

theorem covers_iff (r : OpcodeRow) (w : HostWord) :
    r.covers w = true ↔ w &&& r.mask = r.bits ∧ ∀ e ∈ r.excludes, w &&& e.2 ≠ e.1 := by
  simp [OpcodeRow.covers]

/-- Two words that are no commands and differ in their data only are covered by the same rows. -/
theorem covers_congr {v w : HostWord} (hW : fieldW v = fieldW w) (hA : fieldA v = fieldA w) (hv : v ∉ commandWords)
    (hw : w ∉ commandWords) {r : OpcodeRow} (hr : r ∈ opcodeRows) : r.covers v = r.covers w := by
  have hpat := opcodeRows_patterns r hr
  rw [Bool.eq_iff_iff, covers_iff, covers_iff]
  refine and_congr (and_mask_eq_congr hW hA hv hw (hpat _ (List.mem_cons_self ..))) (forall₂_congr fun e he => ?_)
  exact not_congr (and_mask_eq_congr hW hA hv hw (hpat e (List.mem_cons_of_mem _ he)))

/-- The mnemonics of the rows that cover a word. -/
def coveringRows (w : HostWord) : List String := (opcodeRows.filter fun r => r.covers w).map OpcodeRow.mnemonic

theorem coveringRows_congr {v w : HostWord} (hW : fieldW v = fieldW w) (hA : fieldA v = fieldA w)
    (hv : v ∉ commandWords) (hw : w ∉ commandWords) : coveringRows v = coveringRows w :=
  congrArg (List.map _) (List.filter_congr fun _ hr => covers_congr hW hA hv hw hr)

/-! The rows that span several addresses, each address with D = 0. -/

theorem coveringRows_result : ∀ i : BitVec 3,
    coveringRows (hostWriteWord (0b001#3 ++ i) 0x00#8) = ["WR_IGNORED"] := by
  decide

theorem coveringRows_data : ∀ i : BitVec 4, i ≠ 15#4 →
    coveringRows (hostWriteWord (0b01#2 ++ i) 0x00#8) = ["WR_TX_DATA"] := by
  decide

theorem coveringRows_upper : ∀ i : BitVec 5, coveringRows (hostWriteWord (1#1 ++ i) 0x00#8) = ["WR_IGNORED"] := by
  decide

/-- R80: a write is covered by one row, that of the instruction it decodes to. -/
theorem coveringRows_hostWriteWord (a : HostAddr) (d : Byte) :
    coveringRows (hostWriteWord a d) = [(decodeWrite a d).mnemonic] := by
  by_cases hcmd : hostWriteWord a d ∈ commandWords
  · rw [hostWriteWord_mem_commandWords_iff] at hcmd
    obtain ⟨rfl, rfl | rfl | rfl⟩ := hcmd <;> rfl
  · have hzero : hostWriteWord a 0x00#8 ∉ commandWords := by simp [hostWriteWord_mem_commandWords_iff]
    rw [coveringRows_congr (w := hostWriteWord a 0x00#8) (by simp) (by simp) hcmd hzero]
    rcases hostAddr_cases a with hreg | ⟨i, rfl⟩ | ⟨i, rfl⟩ | ⟨i, rfl⟩
    · rcases hreg with rfl | rfl | rfl | rfl | rfl | rfl | rfl | rfl
      case inr.inr.inr.inl => -- CMD, with a reserved value
        obtain ⟨h1, h2, h3⟩ : d ≠ 0x01#8 ∧ d ≠ 0x02#8 ∧ d ≠ 0x03#8 := by
          simpa [hostWriteWord_mem_commandWords_iff] using hcmd
        have hdec : decodeWrite 0x03#6 d = .cmdRsvd d := decodeCommand_of_ne h1 h2 h3
        rw [hdec]
        rfl
      all_goals rfl
    · rw [decodeWrite_result, coveringRows_result, Instr.mnemonic]
    · by_cases hi : i = 15#4
      · rw [hi]
        rfl
      · rw [decodeWrite_data hi, coveringRows_data i hi, Instr.mnemonic]
    · rw [decodeWrite_upper, coveringRows_upper, Instr.mnemonic]

/-- R80: the row of RD, the first of the table. -/
def readRow : OpcodeRow := { mnemonic := "RD", bits := 0x0000#15, mask := 0x4000#15, excludes := [] }

theorem readRow_covers {w : HostWord} (h : fieldW w = false) : readRow.covers w = true := by
  have hA : fieldA readRow.mask = 0x00#6 := rfl
  have hD : fieldD readRow.mask = 0x00#8 := rfl
  rw [covers_iff, hostWord_ext_iff, fieldW_and, fieldA_and, fieldD_and, h, hA, hD, BitVec.and_zero, BitVec.and_zero]
  exact ⟨⟨rfl, rfl, rfl⟩, List.forall_mem_nil _⟩

/-- R80: every row but RD's asks for W = 1. -/
theorem coveringRows_of_read {w : HostWord} (h : fieldW w = false) : coveringRows w = ["RD"] := by
  have hother : ∀ r ∈ opcodeRows.tail, fieldW r.mask = true ∧ fieldW r.bits = true := by decide
  have hnone : opcodeRows.tail.filter (fun r => r.covers w) = [] := by
    refine List.filter_eq_nil_iff.mpr fun r hr hcov => ?_
    have hW := congrArg fieldW ((covers_iff r w).mp hcov).1
    simp [fieldW_and, h, hother r hr] at hW
  have htable : opcodeRows = readRow :: opcodeRows.tail := rfl
  rw [coveringRows, htable, List.filter_cons, if_pos (readRow_covers h), hnone]
  rfl

theorem coveringRows_eq_mnemonic (w : HostWord) : coveringRows w = [(decode (.host w)).mnemonic] := by
  cases hW : fieldW w with
  | false => rw [coveringRows_of_read hW, decode_of_fieldW_eq_false hW, Instr.mnemonic]
  | true => rw [eq_hostWriteWord hW, coveringRows_hostWriteWord, decode_hostWriteWord]

end Sys2Proof.Machine

section

open Sys2Proof Sys2Proof.Machine

/-- Settles O1: the fields as quotients and remainders of the word, and the words as sums of their shifted fields. -/
theorem hostWordFieldsStandWhereNumbered : Obligations.HostWordFieldsStandWhereNumbered := by
  unfold Obligations.HostWordFieldsStandWhereNumbered
  refine ⟨fun w => ⟨rfl, toNat_fieldA w, toNat_fieldD w⟩, fun a v => ⟨toNat_hostWriteWord a v, toNat_hostReadWord a⟩,
    fun v w hv hw hA => ?_, fun a s => ?_⟩
  · rw [decode_of_fieldW_eq_false hv, decode_of_fieldW_eq_false hw, hA]
  · rw [decode_hostReadWord]
    rfl

/-- Settles O2: the data of a word that is no command reaches no row's pattern (`covers_congr`), so one word per
address shows its row. -/
theorem everyHostWordHasExactlyOneRow : Obligations.EveryHostWordHasExactlyOneRow := by
  unfold Obligations.EveryHostWordHasExactlyOneRow
  simp only [decode_hostWriteWord]
  exact ⟨fun w => decode_of_fieldW_eq_false, fun d => ⟨rfl, rfl, rfl, rfl, rfl⟩, ⟨rfl, rfl, rfl⟩,
    fun d => decodeCommand_of_ne, fun i d hi => decodeWrite_data hi d,
    fun a d => mnemonic_decodeWrite_of_ignoresWrites d, fun w => coveringRows_eq_mnemonic w⟩

end

/-! ## R82, R83: the listing SENDF and TXALL -/

namespace Sys2Proof.Machine

open Sys2Proof

theorem execAll_append_of_next {is js : List Instr} {s m : State} (h : execAll is s = .next m) :
    execAll (is ++ js) s = execAll js m := by
  induction is generalizing s with
  | nil =>
    obtain rfl : s = m := by simpa [execAll] using h
    rfl
  | cons i is ih =>
    obtain ⟨k, hexec, hrun⟩ := execAll_cons_eq_next.mp h
    simpa only [List.cons_append, execAll, hexec] using ih hrun

/-! ### TX_POP, once per byte of the latched frame -/

/-- The bytes of the latched frame from `s.tx_idx` on. -/
def remainingBytes (s : State) : List Byte := (s.txBuf.toList.take s.txLen.toNat).drop s.txIdx.toNat

theorem remainingBytes_eq_cons {s : State} (hlen : s.txLen.toNat ≤ 18) (hidx : s.txIdx.toNat < s.txLen.toNat) :
    remainingBytes s = txByte s :: (s.txBuf.toList.take s.txLen.toNat).drop (s.txIdx.toNat + 1) := by
  have h : s.txIdx.toNat < (s.txBuf.toList.take s.txLen.toNat).length := by simp; omega
  rw [remainingBytes, List.drop_eq_getElem_cons h, txByte_eq_getElem (by omega)]
  simp

/-- R173, R54: taken once for each byte that is left, TX_POP emits them in index order and arms the receiver. -/
theorem execAll_txPop {n : Nat} {s : State} (hbusy : s.txBusy = true) (hlen : s.txLen.toNat ≤ 18)
    (hidx : s.txIdx.toNat + (n + 1) = s.txLen.toNat) :
    execAll (List.replicate (n + 1) .txPop) s =
      .next (arm (stopTransmit { s with txStream := s.txStream ++ remainingBytes s })) := by
  induction n generalizing s with
  | zero =>
    have hpop := exec_of_effect (.popLast hbusy hidx)
    have hrest : remainingBytes s = [txByte s] := by
      rw [remainingBytes_eq_cons hlen (by omega), hidx, List.drop_eq_nil_of_le (List.length_take_le ..)]
    rw [hrest]
    exact execAll_cons_eq_next.mpr ⟨_, hpop, rfl⟩
  | succ n ih =>
    have hpop := exec_of_effect (.popNext hbusy (by omega))
    have hinc : (s.txIdx + 1#5).toNat = s.txIdx.toNat + 1 := by
      rw [BitVec.toNat_add, BitVec.toNat_ofNat]
      omega
    have hrun := ih (s := { emitTx (txByte s) s with txIdx := s.txIdx + 1#5 }) hbusy hlen
      (show (s.txIdx + 1#5).toNat + (n + 1) = s.txLen.toNat by omega)
    refine execAll_cons_eq_next.mpr ⟨_, hpop, hrun.trans ?_⟩
    rw [remainingBytes_eq_cons hlen (by omega)]
    simp [remainingBytes, hinc, stopTransmit, arm]

/-! ### The latched frame -/

theorem latchFrame_take {f : List Byte} (s : State) (h : f.length ≤ 18) :
    (latchFrame f s).txBuf.toList.take f.length = f := by
  apply List.ext_getElem
  · simp [h]
  · intro k hk hk'
    simp [hk']

theorem remainingBytes_latchFrame {f : List Byte} (s : State) (h : f.length ≤ 18) :
    remainingBytes (latchFrame f s) = f := by
  have hlen : (latchFrame f s).txLen.toNat = f.length := by simp; omega
  rw [remainingBytes, hlen, latchFrame_take s h]
  rfl

/-! ### The staging lines -/

theorem decode_stageLine {j : Nat} (hj : j < 15) (d : Byte) :
    decode (lineStep (.wr (BitVec.ofNat 6 (0x10 + j)) d)) = .wrTxData (BitVec.ofNat 4 j) d := by
  have haddr : BitVec.ofNat 6 (0x10 + j) = 0b01#2 ++ BitVec.ofNat 4 j := by
    apply BitVec.eq_of_toNat_eq
    rw [toNat_append_eq_add]
    simp
    omega
  have hne : BitVec.ofNat 4 j ≠ 15#4 := by
    rw [ne_eq, BitVec.toNat_eq, BitVec.toNat_ofNat, BitVec.toNat_ofNat]
    omega
  rw [lineStep, decode_hostWriteWord, haddr, decodeWrite_data hne]

theorem take_succ_set {j : Nat} {l : List Byte} (h : j < l.length) (d : Byte) :
    (l.set j d).take (j + 1) = l.take j ++ [d] := by
  rw [List.take_add_one, List.take_set_of_le (le_refl j), List.getElem?_set_self h]
  rfl

/-- The state with its operand registers replaced. -/
def withOperands (v : Vector Byte 15) (s : State) : State := { s with regTxData := v }

/-- R83: the staging lines from index `j` on store the operands there, in order, and touch nothing else. -/
theorem execAll_stageLines {j : Nat} {ds : List Byte} (h : j + ds.length ≤ 15) (s : State) :
    ∃ v : Vector Byte 15, execAll (listed (stageLines j ds)) s = .next (withOperands v s) ∧
      v.toList.take (j + ds.length) = s.regTxData.toList.take j ++ ds := by
  induction ds generalizing j s with
  | nil => exact ⟨s.regTxData, rfl, (List.append_nil _).symm⟩
  | cons d ds ih =>
    rw [List.length_cons] at h
    obtain ⟨v, hrun, hv⟩ := ih (j := j + 1) (by omega) (withOperands (s.regTxData.setIfInBounds j d) s)
    have hindex : (BitVec.ofNat 4 j).toNat = j := by rw [BitVec.toNat_ofNat]; omega
    have hstore : exec (decode (lineStep (.wr (BitVec.ofNat 6 (0x10 + j)) d))) s =
        .next (withOperands (s.regTxData.setIfInBounds j d) s) := by
      rw [decode_stageLine (by omega), exec_of_effect (.wrTxData _ d), hindex, withOperands]
    refine ⟨v, execAll_cons_eq_next.mpr ⟨_, hstore, hrun⟩, ?_⟩
    have hlen : j < s.regTxData.toList.length := by rw [Vector.length_toList]; omega
    calc v.toList.take (j + (d :: ds).length)
      _ = v.toList.take (j + 1 + ds.length) := by rw [List.length_cons, Nat.add_right_comm, Nat.add_assoc]
      _ = (s.regTxData.toList.set j d).take (j + 1) ++ ds := by rw [hv, withOperands, Vector.toList_setIfInBounds]
      _ = s.regTxData.toList.take j ++ d :: ds := by rw [take_succ_set hlen, List.append_assoc, List.singleton_append]

/-- The state with the header staging registers replaced. -/
def withHeader (cat fn len : Byte) (s : State) : State := { s with regTxCat := cat, regTxFn := fn, regTxLen := len }

theorem listed_sendf (cat fn : Byte) (data : List Byte) : listed (sendf cat fn data) =
    [.wrTxCat cat, .wrTxFn fn, .wrTxLen (BitVec.ofNat 8 data.length)] ++ (listed (stageLines 0 data) ++ [.send]) := by
  simp only [listed, sendf, List.map_append, List.append_assoc, List.map_cons, List.map_nil, lineStep,
    decode_hostWriteWord]
  rfl

/-- R83, R147: SENDF from an idle block stages its operands and latches their frame. -/
theorem execAll_sendf (cat fn : Byte) {data : List Byte} {s : State} (hlen : data.length ≤ 15)
    (hidle : exchangeOpen s = false) :
    ∃ v : Vector Byte 15, execAll (listed (sendf cat fn data)) s =
      .next (reportCmd .ok (latchFrame (frameBytes cat fn data)
        (withOperands v (withHeader cat fn (BitVec.ofNat 8 data.length) s)))) := by
  have hcount : (BitVec.ofNat 8 data.length).toNat = data.length := by rw [BitVec.toNat_ofNat]; omega
  obtain ⟨v, hstage, hv⟩ := execAll_stageLines (j := 0) (ds := data) (by omega)
    (withHeader cat fn (BitVec.ofNat 8 data.length) s)
  have hops : stagedOperands (withOperands v (withHeader cat fn (BitVec.ofNat 8 data.length) s)) = data := by
    rw [Nat.zero_add, List.take_zero, List.nil_append, ← hcount] at hv
    exact hv
  have hsend := exec_of_effect (.sendLatch
    (s := withOperands v (withHeader cat fn (BitVec.ofNat 8 data.length) s)) hidle (hcount.trans_le hlen))
  rw [hops] at hsend
  refine ⟨v, ?_⟩
  rw [listed_sendf, execAll_append_of_next (m := withHeader cat fn (BitVec.ofNat 8 data.length) s) rfl,
    execAll_append_of_next hstage]
  exact execAll_cons_eq_next.mpr ⟨_, hsend, rfl⟩

/-- R83: TXALL right after the frame `f` was latched emits `f` and arms the receiver. -/
theorem execAll_txall_latchFrame {f : List Byte} (s : State) (hpos : 0 < f.length) (hlen : f.length ≤ 18) :
    execAll (listed (txall (latchFrame f s))) (latchFrame f s) =
      .next (arm (stopTransmit { latchFrame f s with txStream := s.txStream ++ f })) := by
  have hcount : (latchFrame f s).txLen.toNat = f.length := by
    rw [latchFrame_txLen, BitVec.toNat_ofNat]
    omega
  have hlines : listed (txall (latchFrame f s)) = List.replicate (f.length - 1 + 1) .txPop := by
    rw [Nat.sub_add_cancel hpos, ← hcount]
    exact List.map_replicate
  rw [hlines, execAll_txPop rfl (by omega) (by rw [hcount, latchFrame_txIdx]; simp; omega),
    remainingBytes_latchFrame s hlen, latchFrame_txStream]

end Sys2Proof.Machine

section

open Sys2Proof Sys2Proof.Machine

/-- Settles O49: `execAll_sendf`, then `execAll_txall_latchFrame`. -/
theorem sendfThenTxallTransmitsTheFrame : Obligations.SendfThenTxallTransmitsTheFrame := by
  unfold Obligations.SendfThenTxallTransmitsTheFrame
  intro cat fn data s hlen hbusy harmed
  obtain ⟨v, hsendf⟩ := execAll_sendf cat fn hlen ((exchangeOpen_eq_false s).mpr ⟨hbusy, harmed⟩)
  have hframe := frameBytes_length cat fn data
  -- Reporting the outcome and latching the frame write different registers.
  have htxall := execAll_txall_latchFrame (f := frameBytes cat fn data)
    (reportCmd .ok (withOperands v (withHeader cat fn (BitVec.ofNat 8 data.length) s))) (by omega) (by omega)
  exact ⟨_, _, _, encodeFrame_ok hlen, hsendf, rfl, rfl, htxall, rfl, rfl, rfl⟩

end

/-! ## R100 to R103: the checksum and the encoded frame -/

namespace Sys2Proof.Machine

open Sys2Proof

/-! ### The checksum as an integer sum -/

/-- R100: the carries that `sum8` discards are the multiples of 256 in the integer sum. -/
theorem sum8_toNat (s : List Byte) : (sum8 s).toNat = (s.map BitVec.toNat).sum % 256 := by
  induction s with
  | nil => rfl
  | cons b s ih =>
    calc (sum8 (b :: s)).toNat
      _ = (b.toNat + (sum8 s).toNat) % 256 := by rw [sum8_cons, BitVec.toNat_add]
      _ = (b.toNat + (s.map BitVec.toNat).sum) % 256 := by rw [ih, Nat.add_mod_mod]
      _ = ((b :: s).map BitVec.toNat).sum % 256 := by rw [List.map_cons, List.sum_cons]

theorem sum8_eq_iff {s t : List Byte} :
    sum8 s = sum8 t ↔ (s.map BitVec.toNat).sum % 256 = (t.map BitVec.toNat).sum % 256 := by
  rw [BitVec.toNat_eq, sum8_toNat, sum8_toNat]

/-- R100: the integer sum, and so the checksum, does not see the order of the bytes. -/
theorem sum8_eq_of_perm {s t : List Byte} (h : s.Perm t) : sum8 s = sum8 t := by
  rw [sum8_eq_iff, (h.map BitVec.toNat).sum_eq]

/-! ### The bytes of a frame -/

/-- R101: the bytes a frame's checksum covers. -/
theorem frameBytes_take_head (cat fn : Byte) (data : List Byte) :
    (frameBytes cat fn data).take (2 + data.length) = frameHead cat fn data :=
  List.take_left' (frameHead_length cat fn data)

theorem frameBytes_checksum (cat fn : Byte) (data : List Byte) :
    (frameBytes cat fn data)[2 + data.length]? = some (sum8 (frameHead cat fn data)) := by
  rw [frameBytes, ← frameHead_length cat fn data, List.getElem?_concat_length]

theorem frameBytes_operand {data : List Byte} {i : Nat} (cat fn : Byte) (h : i < data.length) :
    (frameBytes cat fn data)[2 + i]? = data[i]? := by
  have hhead : 2 + i < (frameHead cat fn data).length := by rw [frameHead_length]; omega
  rw [frameBytes, List.getElem?_append_left hhead, frameHead, Nat.add_comm]
  rfl

end Sys2Proof.Machine

section

open Sys2Proof Sys2Proof.Machine

/-- Settles O7: everything but the four values follows from the integer sum (`sum8_toNat`). -/
theorem checksumIsTheByteSumModulo256 : Obligations.ChecksumIsTheByteSumModulo256 := by
  unfold Obligations.ChecksumIsTheByteSumModulo256
  refine ⟨sum8_toNat, fun s t => sum8_eq_of_perm, fun s hmultiple => ?_, rfl, by decide, by decide, by decide⟩
  exact (sum8_eq_iff (t := [])).mpr hmultiple

/-- Settles O8: the bound of `encodeFrame`, then `frameBytes` position by position. -/
theorem encoderLaysOutTheFrame : Obligations.EncoderLaysOutTheFrame := by
  unfold Obligations.EncoderLaysOutTheFrame
  intro cat fn data
  refine ⟨encodeFrame_error, fun hlen => ⟨frameBytes cat fn data, encodeFrame_ok hlen, frameBytes_length .., ?_⟩⟩
  refine ⟨rfl, rfl, fun i hi => frameBytes_operand cat fn hi, ?_⟩
  rw [frameBytes_take_head, frameBytes_checksum]

end

/-! ## R120 to R126: frame boundary detection and the decoder -/

namespace Sys2Proof.Machine

open Sys2Proof

/-! ### Which outcome the decoder gives -/

section Outcome

variable {buf : List Byte} {b0 : Byte} {fr : Frame} {k : Nat}

theorem tryDecode_incomplete_iff (hhead : buf.head? = some b0) :
    tryDecode buf = .incomplete ↔ buf.length < frameLength b0 := by
  obtain ⟨rest, rfl⟩ := List.head?_eq_some_iff.mp hhead
  rcases tryDecode_cases b0 rest with ⟨hshort, hdec⟩ | ⟨hlong, _, hdec⟩ | ⟨hlong, _, hdec⟩
  · simp only [hdec, hshort]
  · simp only [hdec, reduceCtorEq, not_lt.mpr hlong]
  · simp only [hdec, reduceCtorEq, not_lt.mpr hlong]

theorem tryDecode_decoded_iff (hhead : buf.head? = some b0) :
    tryDecode buf = .decoded fr k ↔
      k = frameLength b0 ∧ k ≤ buf.length ∧ buf[k - 1]? = some (sum8 (buf.take (k - 1))) ∧
        fr = frameOf (buf.take k) := by
  obtain ⟨rest, rfl⟩ := List.head?_eq_some_iff.mp hhead
  rcases tryDecode_cases b0 rest with ⟨hshort, hdec⟩ | ⟨hlong, hsum, hdec⟩ | ⟨_, hsum, hdec⟩
  · simp only [hdec, reduceCtorEq, false_iff]
    rintro ⟨rfl, hlong, _⟩
    exact absurd hlong (not_le.mpr hshort)
  · rw [hdec, DecodeResult.decoded.injEq]
    constructor
    · rintro ⟨rfl, rfl⟩
      exact ⟨rfl, hlong, hsum, rfl⟩
    · rintro ⟨rfl, _, _, rfl⟩
      exact ⟨rfl, rfl⟩
  · simp only [hdec, reduceCtorEq, false_iff]
    rintro ⟨rfl, _, hsum', _⟩
    exact absurd hsum' hsum

theorem tryDecode_invalid_iff (hhead : buf.head? = some b0) :
    tryDecode buf = .invalid ↔
      frameLength b0 ≤ buf.length ∧ buf[frameLength b0 - 1]? ≠ some (sum8 (buf.take (frameLength b0 - 1))) := by
  obtain ⟨rest, rfl⟩ := List.head?_eq_some_iff.mp hhead
  rcases tryDecode_cases b0 rest with ⟨hshort, hdec⟩ | ⟨_, hsum, hdec⟩ | ⟨hlong, hsum, hdec⟩
  · simp only [hdec, reduceCtorEq, not_le.mpr hshort, false_and]
  · simp only [hdec, reduceCtorEq, hsum, ne_eq, not_true_eq_false, and_false]
  · simp only [hdec, true_iff]
    exact ⟨hlong, hsum⟩

/-- R128: a buffer with room for its frame is decided. -/
theorem tryDecode_of_complete (hhead : buf.head? = some b0) (hlong : frameLength b0 ≤ buf.length) :
    tryDecode buf = .invalid ∨ ∃ r, tryDecode buf = .decoded r (frameLength b0) := by
  by_cases hsum : buf[frameLength b0 - 1]? = some (sum8 (buf.take (frameLength b0 - 1)))
  · exact .inr ⟨_, (tryDecode_decoded_iff hhead).mpr ⟨rfl, hlong, hsum, rfl⟩⟩
  · exact .inl ((tryDecode_invalid_iff hhead).mpr ⟨hlong, hsum⟩)

/-- R124: the bytes the decoder reads are those of the first frame. -/
theorem tryDecode_take (hhead : buf.head? = some b0) (hlong : frameLength b0 ≤ buf.length) :
    tryDecode buf = tryDecode (buf.take (frameLength b0)) := by
  have hge := frameLength_ge b0
  have hhead' : (buf.take (frameLength b0)).head? = some b0 := by
    rw [List.head?_take, if_neg (by omega), hhead]
  have hlength : (buf.take (frameLength b0)).length = frameLength b0 := List.length_take_of_le hlong
  have hlast : (buf.take (frameLength b0))[frameLength b0 - 1]? = buf[frameLength b0 - 1]? :=
    List.getElem?_take_of_lt (by omega)
  have hbody : (buf.take (frameLength b0)).take (frameLength b0 - 1) = buf.take (frameLength b0 - 1) := by
    rw [List.take_take, min_eq_left (by omega)]
  rcases tryDecode_of_complete hhead hlong with hdec | ⟨r, hdec⟩
  · obtain ⟨_, hsum⟩ := (tryDecode_invalid_iff hhead).mp hdec
    rw [hdec, eq_comm, tryDecode_invalid_iff hhead', hlength, hlast, hbody]
    exact ⟨le_refl _, hsum⟩
  · obtain ⟨_, _, hsum, hr⟩ := (tryDecode_decoded_iff hhead).mp hdec
    rw [hdec, eq_comm, tryDecode_decoded_iff hhead', hlength, hlast, hbody, List.take_take, min_self]
    exact ⟨rfl, le_refl _, hsum, hr⟩

/-! ### The decoded record (R122) -/

/-- A decoded buffer holds a byte, since it holds at least a whole frame. -/
theorem exists_head_of_decoded (h : tryDecode buf = .decoded fr k) : ∃ b0, buf.head? = some b0 := by
  cases buf with
  | nil => simp at h
  | cons b0 rest => exact ⟨b0, rfl⟩

/-- A byte that `frameOf` reads in the frame is the byte of the buffer. -/
theorem getElem?_eq_some_getD_take {i : Nat} (hi : i < k) (hk : k ≤ buf.length) :
    buf[i]? = some ((buf.take k).getD i 0x00#8) := by
  have hin : i < buf.length := by omega
  rw [List.getD_eq_getElem?_getD, List.getElem?_take_of_lt hi, List.getElem?_eq_getElem hin, Option.getD_some]

theorem head?_of_decoded (h : tryDecode buf = .decoded fr k) : buf.head? = some fr.b0 := by
  obtain ⟨b0, hhead⟩ := exists_head_of_decoded h
  obtain ⟨rfl, hk, _, rfl⟩ := (tryDecode_decoded_iff hhead).mp h
  rw [List.head?_eq_getElem?]
  exact getElem?_eq_some_getD_take (by have := frameLength_ge b0; omega) hk

/-- R120, R121: what a decoded outcome says of its buffer, with the first byte and the count as the record has them. -/
theorem complete_of_decoded (h : tryDecode buf = .decoded fr k) :
    k = 3 + fr.n.toNat ∧ k = frameLength fr.b0 ∧ k ≤ buf.length ∧
      buf[k - 1]? = some (sum8 (buf.take (k - 1))) ∧ fr = frameOf (buf.take k) := by
  obtain ⟨hlength, hk, hsum, hfr⟩ := (tryDecode_decoded_iff (head?_of_decoded h)).mp h
  obtain ⟨hn, _⟩ := tryDecode_decoded_fields h
  exact ⟨by rw [hn]; exact hlength, hlength, hk, hsum, hfr⟩

theorem countOf_toNat (b : Byte) : (countOf b).toNat = b.toNat % 16 := by
  simp [countOf, BitVec.extractLsb'_toNat]

/-- R72: the count is the low nibble. -/
theorem and_0F_toNat (b : Byte) : (b &&& 0x0F#8).toNat = (countOf b).toNat := by
  rw [countOf_toNat, BitVec.toNat_and]
  exact Nat.and_two_pow_sub_one_eq_mod b.toNat 4

theorem decoded_function (h : tryDecode buf = .decoded fr k) : buf[1]? = some fr.function := by
  obtain ⟨hlength, _, hk, _, rfl⟩ := complete_of_decoded h
  exact getElem?_eq_some_getD_take (by omega) hk

theorem decoded_operand {i : Nat} (h : tryDecode buf = .decoded fr k) (hi : i < fr.n.toNat) :
    fr.data[i]? = buf[2 + i]? := by
  obtain ⟨hlength, _, _, _, hfr⟩ := complete_of_decoded h
  have hdata : fr.data = ((buf.take k).drop 2).take fr.n.toNat := by rw [hfr]; rfl
  rw [hdata, List.getElem?_take_of_lt hi, List.getElem?_drop, List.getElem?_take_of_lt (by omega)]

theorem decoded_checksum (h : tryDecode buf = .decoded fr k) : buf[k - 1]? = some fr.checksum := by
  obtain ⟨hlength, hframe, hk, _, hfr⟩ := complete_of_decoded h
  have hchecksum : fr.checksum = (buf.take k).getD (frameLength fr.b0 - 1) 0x00#8 := by rw [hfr]; rfl
  rw [hchecksum, ← hframe]
  exact getElem?_eq_some_getD_take (by omega) hk

end Outcome

/-! ### The round trip (R125) -/

theorem countOf_byte0 {n : Nat} (cat : Byte) (hn : n ≤ 15) : (countOf (byte0 cat n)).toNat = n := by
  have hsplit : countOf (byte0 cat n) = countOf (categoryOf cat) ||| countOf (BitVec.ofNat 8 n) :=
    BitVec.extractLsb'_or
  have hcat : countOf (categoryOf cat) = 0#4 := by
    rw [countOf, categoryOf, BitVec.extractLsb'_and]
    exact BitVec.and_zero
  rw [hsplit, hcat, BitVec.zero_or, countOf_toNat, BitVec.toNat_ofNat]
  omega

theorem categoryOf_byte0 {n : Nat} (cat : Byte) (hn : n ≤ 15) : categoryOf (byte0 cat n) = categoryOf cat := by
  have hcount : categoryOf (BitVec.ofNat 8 n) = 0x00#8 := by interval_cases n <;> rfl
  have hcat : categoryOf (categoryOf cat) = categoryOf cat := by
    rw [categoryOf, categoryOf, BitVec.and_assoc, BitVec.and_self]
  calc categoryOf (byte0 cat n)
    _ = categoryOf (categoryOf cat) ||| categoryOf (BitVec.ofNat 8 n) := BitVec.and_or_distrib_right
    _ = categoryOf cat := by rw [hcat, hcount, BitVec.or_zero]

/-- The low nibble is what `categoryOf` drops. -/
theorem categoryOf_eq_self_iff (cat : Byte) : categoryOf cat = cat ↔ cat &&& 0x0F#8 = 0x00#8 := by
  have hsplit : categoryOf cat ||| cat &&& 0x0F#8 = cat := by
    rw [categoryOf, ← BitVec.and_or_distrib_left]
    exact BitVec.and_allOnes
  constructor
  · intro h
    rw [← h, categoryOf, BitVec.and_assoc]
    exact BitVec.and_zero
  · intro h
    rwa [h, BitVec.or_zero] at hsplit

theorem tryDecode_frameBytes {data : List Byte} (cat fn : Byte) (hlen : data.length ≤ 15) :
    tryDecode (frameBytes cat fn data) = .decoded (frameOf (frameBytes cat fn data)) (3 + data.length) := by
  have hframe : frameLength (byte0 cat data.length) = 3 + data.length := by rw [frameLength, countOf_byte0 cat hlen]
  refine (tryDecode_decoded_iff (b0 := byte0 cat data.length) rfl).mpr ⟨hframe.symm, ?_, ?_, ?_⟩
  · rw [frameBytes_length]
  · have hlast : 3 + data.length - 1 = 2 + data.length := by omega
    rw [hlast, frameBytes_take_head, frameBytes_checksum]
  · rw [← frameBytes_length cat fn data, List.take_length]

theorem frameOf_frameBytes_data {data : List Byte} (cat fn : Byte) (hlen : data.length ≤ 15) :
    (frameOf (frameBytes cat fn data)).data = data := by
  have hdata : (frameOf (frameBytes cat fn data)).data =
      (data ++ [sum8 (frameHead cat fn data)]).take (countOf (byte0 cat data.length)).toNat := rfl
  rw [hdata, countOf_byte0 cat hlen, List.take_left]

/-! ### Changed bytes (R126) -/

/-- R126: byte `b` with bit `k` inverted. -/
def flipBit (k : Nat) (b : Byte) : Byte := b ^^^ (1#8 <<< k)

theorem flipBit_ne {k : Nat} (hk : k < 8) (b : Byte) : flipBit k b ≠ b := by
  intro h
  have hbit := congrArg (·.getLsbD k) h
  simp [flipBit, hk] at hbit

theorem countOf_flipBit (k : Nat) (b : Byte) :
    (countOf (flipBit k b)).toNat = (countOf b).toNat ^^^ 2 ^ k % 16 := by
  have hmask : (1#8 <<< k).toNat % 16 = 2 ^ k % 16 := by
    rw [← BitVec.twoPow_eq, BitVec.toNat_twoPow]
    omega
  rw [countOf_toNat, countOf_toNat, flipBit, BitVec.toNat_xor, ← hmask]
  exact Nat.xor_mod_two_pow (n := 4)

/-- A category bit is no part of the count. -/
theorem frameLength_flip_category {k : Nat} (hk : 4 ≤ k) (b : Byte) :
    frameLength (flipBit k b) = frameLength b := by
  have hzero : 2 ^ k % 16 = 0 := Nat.mod_eq_zero_of_dvd (pow_dvd_pow 2 hk)
  rw [frameLength, frameLength, countOf_flipBit, hzero, Nat.xor_zero]

theorem frameLength_flip_count {k : Nat} (hk : k ≤ 3) (b : Byte) :
    frameLength (flipBit k b) = 3 + ((countOf b).toNat ^^^ 2 ^ k) := by
  have hsmall : 2 ^ k < 2 ^ 4 := Nat.pow_lt_pow_right (by omega) (by omega)
  rw [frameLength, countOf_flipBit, Nat.mod_eq_of_lt (by omega)]

/-- Changing one byte keeps the sum only if that byte stays what it was. -/
theorem sum8_modify_eq_iff {s : List Byte} {j : Nat} (g : Byte → Byte) (hj : j < s.length) :
    sum8 (s.modify j g) = sum8 s ↔ g s[j] = s[j] := by
  have hs : s = s.take j ++ s[j] :: s.drop (j + 1) := by simp
  have hsum : sum8 s = sum8 (s.take j) + (s[j] + sum8 (s.drop (j + 1))) := by
    rw [← sum8_cons, ← sum8_append, ← hs]
  rw [List.modify_eq_take_cons_drop hj, sum8_append, sum8_cons, hsum, BitVec.add_right_inj, BitVec.add_left_inj]

/-- R126 case 1: a changed byte before the checksum moves the sum alone, and a changed checksum only itself. -/
theorem checksum_ne_of_modify {f : List Byte} {j : Nat} {g : Byte → Byte} (hj : j < f.length)
    (hg : ∀ b, g b ≠ b) (hsum : f[f.length - 1]? = some (sum8 (f.take (f.length - 1)))) :
    (f.modify j g)[f.length - 1]? ≠ some (sum8 ((f.modify j g).take (f.length - 1))) := by
  rw [List.getElem?_modify, hsum, List.take_modify]
  by_cases hlast : j = f.length - 1
  · rw [List.modify_eq_self (by simp [hlast])]
    simpa [hlast] using hg _
  · have hbody : j < (f.take (f.length - 1)).length := by rw [List.length_take]; omega
    have hne := mt (sum8_modify_eq_iff g hbody).mp (hg _)
    simpa [hlast, eq_comm] using hne

/-- R126 case 1: the length the first byte announces stays. -/
theorem head?_flip_outside_count {f : List Byte} {b0 : Byte} {j k : Nat} (hhead : f.head? = some b0)
    (hbit : 1 ≤ j ∨ 4 ≤ k) :
    ∃ b0', (f.modify j (flipBit k)).head? = some b0' ∧ frameLength b0' = frameLength b0 := by
  obtain ⟨rest, rfl⟩ := List.head?_eq_some_iff.mp hhead
  cases j with
  | zero => exact ⟨_, rfl, frameLength_flip_category (by omega) b0⟩
  | succ j => exact ⟨b0, rfl, rfl⟩

/-- R121, R126: a checksum holds when the sum before it differs from it by 0. -/
theorem residue_eq_zero_iff {f : List Byte} :
    f.getLast?.map (sum8 f.dropLast - ·) = some 0 ↔ f.getLast? = some (sum8 f.dropLast) := by
  have hzero (c : Byte) : sum8 f.dropLast - c = 0x00#8 ↔ c = sum8 f.dropLast := sub_eq_zero.trans eq_comm
  simp [hzero]

section ValidFrame

variable {f : List Byte} {fr : Frame}

/-- R126 case 1. -/
theorem tryDecode_flip_outside_count {j k : Nat} (h : tryDecode f = .decoded fr f.length) (hj : j < f.length)
    (hk : k < 8) (hbit : 1 ≤ j ∨ 4 ≤ k) : tryDecode (f.modify j (flipBit k)) = .invalid := by
  obtain ⟨_, hlength, _, hsum, _⟩ := complete_of_decoded h
  obtain ⟨b0', hhead', hcount⟩ := head?_flip_outside_count (head?_of_decoded h) hbit
  rw [tryDecode_invalid_iff hhead', hcount, ← hlength, List.length_modify]
  exact ⟨le_refl _, checksum_ne_of_modify hj (flipBit_ne hk) hsum⟩

/-- R126 case 2: the first byte after the flip, and the length it announces. -/
theorem head?_flip_count {k : Nat} (h : tryDecode f = .decoded fr f.length) (hk : k ≤ 3) :
    (f.modify 0 (flipBit k)).head? = some (flipBit k fr.b0) ∧
      frameLength (flipBit k fr.b0) = 3 + (fr.n.toNat ^^^ 2 ^ k) := by
  obtain ⟨hn, _⟩ := tryDecode_decoded_fields h
  obtain ⟨rest, hf⟩ := List.head?_eq_some_iff.mp (head?_of_decoded h)
  exact ⟨by rw [hf]; rfl, by rw [hn, frameLength_flip_count hk]⟩

/-- R126: changes that cancel modulo 256 and keep the count are not detected. -/
theorem tryDecode_of_same_residue {g : List Byte} (h : tryDecode f = .decoded fr f.length)
    (hlength : g.length = f.length) (hcount : g.head?.map countOf = f.head?.map countOf)
    (hresidue : g.getLast?.map (sum8 g.dropLast - ·) = f.getLast?.map (sum8 f.dropLast - ·)) :
    ∃ r, tryDecode g = .decoded r g.length := by
  obtain ⟨_, hframe, _, hsum, _⟩ := complete_of_decoded h
  rw [head?_of_decoded h, Option.map_some, Option.map_eq_some_iff] at hcount
  obtain ⟨b0, hhead, hcount⟩ := hcount
  have hannounced : g.length = frameLength b0 := by rw [hlength, hframe, frameLength, frameLength, hcount]
  have hlast : f.getLast? = some (sum8 f.dropLast) := by rw [List.getLast?_eq_getElem?, List.dropLast_eq_take, hsum]
  rw [residue_eq_zero_iff.mpr hlast, residue_eq_zero_iff, List.getLast?_eq_getElem?, List.dropLast_eq_take]
    at hresidue
  exact ⟨_, (tryDecode_decoded_iff hhead).mpr ⟨hannounced, le_refl _, hresidue, rfl⟩⟩

end ValidFrame

end Sys2Proof.Machine

section

open Sys2Proof Sys2Proof.Machine

/-- Settles O9: the checksum of `frameBytes` holds (`tryDecode_frameBytes`), and its record is read off its bytes. -/
theorem decodedFrameIsTheEncodedOne : Obligations.DecodedFrameIsTheEncodedOne := by
  unfold Obligations.DecodedFrameIsTheEncodedOne
  intro cat fn data hlen
  have hcat : (frameOf (frameBytes cat fn data)).category = categoryOf cat := categoryOf_byte0 cat hlen
  refine ⟨_, _, encodeFrame_ok hlen, frameBytes_length .., tryDecode_frameBytes cat fn hlen, hcat, rfl,
    frameOf_frameBytes_data cat fn hlen, ?_⟩
  rw [hcat, categoryOf_eq_self_iff]

/-- Settles O10, field by field. -/
theorem decodedRecordHasTheFrameFields : Obligations.DecodedRecordHasTheFrameFields := by
  unfold Obligations.DecodedRecordHasTheFrameFields
  intro buf fr k h
  obtain ⟨hlength, _, hk, hsum, hfr⟩ := complete_of_decoded h
  obtain ⟨hn, hdata, _⟩ := tryDecode_decoded_fields h
  have hchecksum := decoded_checksum h
  refine ⟨hlength, hk, ?_, ?_, ?_, decoded_function h, hdata, fun i => decoded_operand h, hchecksum, ?_⟩
  · rw [← List.head?_eq_getElem?, head?_of_decoded h]
  · rw [hfr]; rfl
  · rw [hn, and_0F_toNat]
  · exact Option.some.inj (hchecksum.symm.trans hsum)

/-- Settles O11: a beginning that is not empty begins with the same first byte. -/
theorem shorterThanItsFrameIsIncomplete : Obligations.ShorterThanItsFrameIsIncomplete := by
  unfold Obligations.ShorterThanItsFrameIsIncomplete
  refine ⟨tryDecode_nil, fun buf p b0 hhead hbeginning hshort => ?_⟩
  obtain ⟨tail, rfl⟩ := hbeginning
  cases p with
  | nil => exact tryDecode_nil
  | cons b rest =>
    obtain rfl : b = b0 := Option.some.inj hhead
    rw [and_0F_toNat] at hshort
    exact (tryDecode_incomplete_iff rfl).mpr hshort

/-- Settles O12 (`tryDecode_take`). -/
theorem bytesAfterTheFrameAreNotRead : Obligations.BytesAfterTheFrameAreNotRead := by
  unfold Obligations.BytesAfterTheFrameAreNotRead
  intro b0 rest hlong
  exact tryDecode_take rfl hlong

/-- Settles O13: outside the count the checksum fails; in the count the length moves; a kept residue decodes. -/
theorem singleBitErrorsAreCaughtButInTheCount : Obligations.SingleBitErrorsAreCaughtButInTheCount := by
  unfold Obligations.SingleBitErrorsAreCaughtButInTheCount
  intro f fr h
  refine ⟨fun j k => tryDecode_flip_outside_count h, fun k hk => ?_, fun g => tryDecode_of_same_residue h⟩
  obtain ⟨hhead, hframe⟩ := head?_flip_count h hk
  rw [← hframe]
  constructor
  · intro hlonger
    exact (tryDecode_incomplete_iff hhead).mpr (by rwa [List.length_modify])
  · intro hshorter
    exact tryDecode_of_complete hhead (by rw [List.length_modify]; exact hshorter.le)

end

/-! ## R140, R51: the register map -/

namespace Sys2Proof.Machine

open Sys2Proof

/-- A byte under a mask of its `k` low bits is those bits as a byte. -/
theorem and_lowOnes (x : Byte) {k : Nat} (hk : k ≤ 8) :
    x &&& BitVec.ofNat 8 (2 ^ k - 1) = (x.extractLsb' 0 k).setWidth 8 := by
  have hpow : 2 ^ k ≤ 2 ^ 8 := Nat.pow_le_pow_right (by decide) hk
  apply BitVec.eq_of_toNat_eq
  rw [BitVec.toNat_and, BitVec.toNat_ofNat, Nat.mod_eq_of_lt (by omega), Nat.and_two_pow_sub_one_eq_mod,
    BitVec.toNat_setWidth_of_le hk, BitVec.extractLsb'_toNat, Nat.shiftRight_zero]

/-- R51: from 0x0E on only the two operand arrays and reserved addresses are left. -/
theorem memRead_of_ge (s : State) {a : HostAddr} (h : 0x0E ≤ a.toNat) :
    memRead s a =
      if htx : 0x10 ≤ a.toNat ∧ a.toNat ≤ 0x1E then s.regTxData[a.toNat - 0x10]
      else if hrx : 0x20 ≤ a.toNat ∧ a.toNat ≤ 0x2E then s.rxData[a.toNat - 0x20]
      else 0x00#8 := by
  have hreg (c : HostAddr) (hc : c.toNat < 0x0E) : a ≠ c := hostAddr_ne_of_lt (lt_of_lt_of_le hc h)
  simp (disch := decide) only [memRead, hreg, if_false]

theorem memRead_txData (s : State) {i : Nat} (hi : i < 15) :
    memRead s (BitVec.ofNat 6 (0x10 + i)) = s.regTxData[i] := by
  have ha : (BitVec.ofNat 6 (0x10 + i)).toNat = 0x10 + i := by rw [BitVec.toNat_ofNat]; omega
  rw [memRead_of_ge s (by omega), dif_pos (by omega)]
  simp only [ha, Nat.add_sub_cancel_left]

theorem memRead_rxData (s : State) {i : Nat} (hi : i < 15) :
    memRead s (BitVec.ofNat 6 (0x20 + i)) = s.rxData[i] := by
  have ha : (BitVec.ofNat 6 (0x20 + i)).toNat = 0x20 + i := by rw [BitVec.toNat_ofNat]; omega
  rw [memRead_of_ge s (by omega), dif_neg (by omega), dif_pos (by omega)]
  simp only [ha, Nat.add_sub_cancel_left]

/-- R58: the record of earlier reads is read by no register. -/
theorem memRead_hostReads (s : State) (r : List Byte) (a : HostAddr) :
    memRead { s with hostReads := r } a = memRead s a := rfl

end Sys2Proof.Machine

section

open Sys2Proof Sys2Proof.Machine

/-- Settles O14: the single registers by the definition, the masked ones as their low bits, the operand arrays and the
reserved addresses by their ranges. -/
theorem readReturnsTheRegisterMap : Obligations.ReadReturnsTheRegisterMap := by
  unfold Obligations.ReadReturnsTheRegisterMap
  refine ⟨fun a s => exec_of_effect (.rd a), fun a s r => memRead_hostReads s r a, fun s => ?_, rfl⟩
  have hctrl : memRead s 0x00#6 = _ := and_lowOnes s.ctrl (k := 2) (by decide)
  have hflags : memRead s 0x02#6 = _ := and_lowOnes s.flags (k := 6) (by decide)
  have hcmdres : memRead s 0x04#6 = _ := and_lowOnes s.cmdres (k := 2) (by decide)
  have hresKind : memRead s 0x08#6 = _ := and_lowOnes s.resKind (k := 2) (by decide)
  exact ⟨hctrl, rfl, hflags, rfl, hcmdres, rfl, rfl, rfl, hresKind, rfl, rfl, rfl, rfl, rfl,
    fun i => memRead_txData s i.isLt, fun i => memRead_rxData s i.isLt, fun a => memRead_of_reserved s⟩

end

/-! ## R142 to R146: the register writes -/

namespace Sys2Proof.Machine

open Sys2Proof

/-! ### CTRL and FLAGS -/

theorem irq_eq (s : State) : irq s = (s.ctrl.getLsbD 1 && decide (s.resKind ≠ 0x00#8)) := by
  rw [← resultPending_eq_decide]
  rfl

/-- R143: the flags stand in bits 5 to 0. -/
theorem getLsbD_flagBits (k : Nat) : (0x3F#8).getLsbD k = decide (k < 6) := by
  have hones : 0x3F#8 = (BitVec.allOnes 6).setWidth 8 := rfl
  rw [hones, BitVec.getLsbD_setWidth, BitVec.getLsbD_allOnes, ← Bool.decide_and, decide_eq_decide]
  omega

theorem clearedFlags_zero (flags : Byte) : clearedFlags 0x00#8 flags = flags := BitVec.and_allOnes

/-! ### The staging registers -/

theorem categoryOf_categoryOf (cat : Byte) : categoryOf (categoryOf cat) = categoryOf cat := by
  simp only [categoryOf, BitVec.and_assoc, BitVec.and_self]

/-- R102: the encoder takes the high nibble of the category only. -/
theorem encodeFrame_categoryOf (cat fn : Byte) (data : List Byte) :
    encodeFrame (categoryOf cat) fn data = encodeFrame cat fn data := by
  simp only [encodeFrame, frameBytes, frameHead, byte0, categoryOf_categoryOf]

/-- R145, R147: an operand stored at an index not below `n` is not among the first `n`. -/
theorem take_setIfInBounds_of_le {n i : Nat} (v : Vector Byte 15) (d : Byte) (h : n ≤ i) :
    (v.setIfInBounds i d).toList.take n = v.toList.take n := by
  rw [Vector.toList_setIfInBounds, List.take_set_of_le h]

end Sys2Proof.Machine

section

open Sys2Proof Sys2Proof.Machine

/-- Settles O18: the mask 0x03 keeps bits 0 and 1. -/
theorem wrCtrlStoresTwoBits : Obligations.WrCtrlStoresTwoBits := by
  unfold Obligations.WrCtrlStoresTwoBits
  intro d s
  refine ⟨decode_encode (i := .wrCtrl d) rfl, _, exec_of_effect (.wrCtrl d), rfl, ?_, ?_, ?_⟩
  · show d &&& 0x03#8 &&& 0x03#8 = d &&& 0x03#8
    rw [BitVec.and_assoc, BitVec.and_self]
  · simp [dropAll]
  · simp [irq_eq]

/-- Settles O19: `getLsbD_clearedFlags` bit by bit; 0xFF leaves no flag bit that a read shows. -/
theorem wrFlagsClearsTheWrittenOnes : Obligations.WrFlagsClearsTheWrittenOnes := by
  unfold Obligations.WrFlagsClearsTheWrittenOnes
  intro d s
  refine ⟨decode_encode (i := .wrFlags d) rfl, _, exec_of_effect (.wrFlags d), rfl, fun k => ?_, ?_, ?_⟩
  · rw [← getLsbD_flagBits]
    exact getLsbD_clearedFlags d s.flags k
  · rintro rfl
    rw [clearedFlags_zero]
  · rintro rfl
    exact and_and_eq_zero_of_disjoint rfl s.flags

/-- Settles O20: a `TX_LEN` above 15 takes SEND into its second case (`Effect.sendTooLong`). -/
theorem stagingHeaderWritesStoreAllBits : Obligations.StagingHeaderWritesStoreAllBits := by
  unfold Obligations.StagingHeaderWritesStoreAllBits
  refine ⟨fun d s => ?_, fun d s hbusy harmed hlong => ?_, fun d fn data => (encodeFrame_categoryOf d fn data).symm⟩
  · exact ⟨decode_encode (i := .wrTxCat d) rfl, exec_of_effect (.wrTxCat d), decode_encode (i := .wrTxFn d) rfl,
      exec_of_effect (.wrTxFn d), decode_encode (i := .wrTxLen d) rfl, exec_of_effect (.wrTxLen d), rfl, rfl, rfl⟩
  · exact exec_of_effect (.sendTooLong ((exchangeOpen_eq_false _).mpr ⟨hbusy, harmed⟩) hlong)

/-- Settles O21: index 15 excluded, the index lies inside the array, so one entry is set and the read finds it. -/
theorem wrTxDataStoresOneOperand : Obligations.WrTxDataStoresOneOperand := by
  unfold Obligations.WrTxDataStoresOneOperand
  intro i d s hi
  have hindex : i.toNat < 15 := by
    rw [ne_eq, BitVec.toNat_eq, BitVec.toNat_ofNat] at hi
    omega
  have hdecode := (decode_hostWriteWord _ d).trans (decodeWrite_data hi d)
  refine ⟨hdecode, _, exec_of_effect (.wrTxData i d), rfl, fun j => ?_, ?_, take_setIfInBounds_of_le s.regTxData d⟩
  · simp only [Vector.getElem_setIfInBounds, eq_comm]
  · rw [memRead_txData _ hindex, Vector.getElem_setIfInBounds_self]

/-- Settles O22: every instruction of the mnemonic WR_IGNORED leaves the state as it is. -/
theorem ignoredWritesChangeNothing : Obligations.IgnoredWritesChangeNothing := by
  unfold Obligations.IgnoredWritesChangeNothing
  refine ⟨fun d a b s => ?_, fun a d s h => ⟨?_, exec_decode_of_ignoresWrites d s h⟩⟩
  · exact ⟨exec_eq_self_of_ignored rfl s, exec_eq_self_of_ignored rfl s, exec_eq_self_of_ignored rfl s,
      exec_eq_self_of_ignored rfl s, exec_eq_self_of_ignored rfl s⟩
  · rw [decode_hostWriteWord]
    exact mnemonic_decodeWrite_of_ignoresWrites d h

end

/-! ## R147 to R150: the commands -/

namespace Sys2Proof.Machine

open Sys2Proof

theorem exchangeOpen_eq_true (s : State) : exchangeOpen s = true ↔ s.txBusy = true ∨ s.rxArmed = true := by
  simp [exchangeOpen]

/-! ### The transmit buffer after a frame was latched -/

theorem latchFrame_txBuf_of_lt {f : List Byte} {i : Nat} (s : State) (hlen : f.length ≤ 18) (hi : i < f.length) :
    (latchFrame f s).txBuf[i]? = f[i]? := by
  have hbuf : i < 18 := by omega
  simp [hbuf, hi]

theorem latchFrame_txBuf_of_ge {f : List Byte} {i : Nat} (s : State) (hi : f.length ≤ i) :
    (latchFrame f s).txBuf[i]? = s.txBuf[i]? := by
  by_cases hbuf : i < 18
  · simp [hbuf, List.getElem?_eq_none hi]
  · simp [hbuf]

theorem latchFrame_txLen_toNat {f : List Byte} (s : State) (hlen : f.length ≤ 18) :
    (latchFrame f s).txLen.toNat = f.length := by
  rw [latchFrame_txLen, BitVec.toNat_ofNat]
  omega

end Sys2Proof.Machine

section

open Sys2Proof Sys2Proof.Machine

/-- Settles O23: the three cases of SEND; the latched frame has `n + 3` bytes, at most 18. -/
theorem sendChecksThenLatchesTheFrame : Obligations.SendChecksThenLatchesTheFrame := by
  unfold Obligations.SendChecksThenLatchesTheFrame
  intro s
  refine ⟨fun hopen => ?_, fun hbusy harmed hlong => ?_, fun hbusy harmed hshort => ?_⟩
  · exact exec_of_effect (.sendBusy ((exchangeOpen_eq_true s).mpr hopen))
  · exact exec_of_effect (.sendTooLong ((exchangeOpen_eq_false s).mpr ⟨hbusy, harmed⟩) hlong)
  · have hops : (stagedOperands s).length = s.regTxLen.toNat := stagedOperands_length hshort
    have hlen : (frameBytes s.regTxCat s.regTxFn (stagedOperands s)).length = s.regTxLen.toNat + 3 := by
      rw [frameBytes_length, hops, Nat.add_comm]
    have hsend := exec_of_effect (.sendLatch ((exchangeOpen_eq_false s).mpr ⟨hbusy, harmed⟩) hshort)
    refine ⟨_, _, encodeFrame_ok (hops.trans_le hshort), hsend, hlen, fun i hi => ?_, fun i hi => ?_, ?_, rfl⟩
    · exact latchFrame_txBuf_of_lt s (by omega) (by omega)
    · exact latchFrame_txBuf_of_ge s (by omega)
    · exact (latchFrame_txLen_toNat s (by omega)).trans hlen

/-- Settles O24: the two cases of ABORT. -/
theorem abortCancelsTheExchange : Obligations.AbortCancelsTheExchange := by
  unfold Obligations.AbortCancelsTheExchange
  intro s
  refine ⟨fun hopen => ?_, fun hbusy harmed => ?_⟩
  · exact exec_of_effect (.abortOpen ((exchangeOpen_eq_true s).mpr hopen))
  · exact exec_of_effect (.abortIdle ((exchangeOpen_eq_false s).mpr ⟨hbusy, harmed⟩))

/-- Settles O25: with `RES_KIND` 0 no result is pending, whatever `IRQ_EN` says. -/
theorem ackRetiresTheResult : Obligations.AckRetiresTheResult := by
  unfold Obligations.AckRetiresTheResult
  intro s
  refine ⟨_, exec_of_effect .ack, ?_, rfl⟩
  rw [irq_eq, reportCmd_resKind, retireResult_resKind]
  simp

/-- Settles O26: a value that is none of the three commands decodes to CMD_RSVD, whose effect ignores it. -/
theorem reservedCommandReportsBadCmd : Obligations.ReservedCommandReportsBadCmd := by
  unfold Obligations.ReservedCommandReportsBadCmd
  intro d s h1 h2 h3
  exact ⟨(decode_hostWriteWord _ d).trans (decodeCommand_of_ne h1 h2 h3), exec_of_effect (.cmdRsvd d)⟩

end

/-! ## R170, R174, R175: EVAL and what SCAN and RX_BYTE make of the buffer -/

namespace Sys2Proof.Machine

open Sys2Proof

/-! ### EVAL, one equation per outcome of the decoder -/

theorem evalBuffer_of_incomplete {s : State} (h : tryDecode s.rxBuf = .incomplete) :
    evalBuffer s = { s with scan := false } := by
  simp only [evalBuffer, h]

theorem evalBuffer_of_decoded {s : State} {fr : Frame} {k : Nat} (h : tryDecode s.rxBuf = .decoded fr k) :
    evalBuffer s = finish (.decoded fr) (noteResidual k s) := by
  simp only [evalBuffer, h]

theorem evalBuffer_of_invalid {s : State} (h : tryDecode s.rxBuf = .invalid) :
    evalBuffer s = resynchronise (setFlag .inv s) := by
  simp only [evalBuffer, h]

theorem resynchronise_of_dropOne {s : State} (h : s.ctrl.getLsbD 0 = false) :
    resynchronise s = { s with rxBuf := s.rxBuf.tail, scan := decide (s.rxBuf.tail ≠ []) } := by
  rcases resynchronise_cases s with ⟨hdropAll, _⟩ | ⟨_, hres⟩
  · exact absurd (h.symm.trans hdropAll) Bool.false_ne_true
  · have hdue : (!s.rxBuf.tail.isEmpty) = decide (s.rxBuf.tail ≠ []) := by rw [Bool.eq_iff_iff]; simp
    rw [hres, hdue]

theorem resynchronise_of_dropAll {s : State} (h : s.ctrl.getLsbD 0 = true) :
    resynchronise s = { s with rxBuf := [], scan := false } := by
  rcases resynchronise_cases s with ⟨_, hres⟩ | ⟨hdropOne, _⟩
  · exact hres
  · exact absurd (hdropOne.symm.trans h) Bool.false_ne_true

/-- R170: `STRAY` for residual bytes, as the mask it adds. -/
theorem noteResidual_eq (k : Nat) (s : State) :
    noteResidual k s = { s with flags := s.flags ||| if k < s.rxBuf.length then 0x02#8 else 0x00#8 } := by
  rcases noteResidual_cases k s with ⟨hmore, hres⟩ | ⟨hnone, hres⟩
  · rw [hres, if_pos hmore]; rfl
  · rw [hres, if_neg (not_lt.mpr hnone), BitVec.or_zero]

/-- R171: `OVR` over a pending result, as the mask it adds. -/
theorem overrunFlags_eq (s : State) :
    overrunFlags s = s.flags ||| if s.resKind = 0x00#8 then 0x00#8 else 0x04#8 := by
  by_cases h : s.resKind = 0x00#8
  · rw [overrunFlags, if_pos h, if_pos h, BitVec.or_zero]
  · rw [overrunFlags, if_neg h, if_neg h]; rfl

theorem evaluatesTo_evalBuffer (buf : List Byte) (s : State) :
    EvaluatesTo buf s (evalBuffer { s with rxBuf := buf }) where
  incomplete h := evalBuffer_of_incomplete h
  decoded fr k h := by
    rw [evalBuffer_of_decoded (s := { s with rxBuf := buf }) h, noteResidual_eq]
    refine ⟨fun i => by simp [resultData], ?_⟩
    rw [finish, overrunFlags_eq]
    rfl
  invalidDropOne h hctrl := by
    rw [evalBuffer_of_invalid (s := { s with rxBuf := buf }) h]
    exact resynchronise_of_dropOne hctrl
  invalidDropAll h hctrl := by
    rw [evalBuffer_of_invalid (s := { s with rxBuf := buf }) h]
    exact resynchronise_of_dropAll hctrl

/-! ### Chains of scans -/

/-- R170, R175: only an Invalid outcome under DROP_ONE asks for another scan, of one byte less. -/
theorem evalBuffer_scan_due {s : State} (h : (evalBuffer s).scan = true) :
    s.ctrl.getLsbD 0 = false ∧ 3 ≤ s.rxBuf.length ∧ (evalBuffer s).rxBuf = s.rxBuf.tail := by
  rcases evalBuffer_cases s with ⟨_, heval⟩ | ⟨fr, k, _, heval⟩ | ⟨hdec, heval⟩
  · simp [heval] at h
  · simp [heval] at h
  · rw [heval] at h ⊢
    rcases resynchronise_cases (setFlag .inv s) with ⟨_, hres⟩ | ⟨hdropOne, hres⟩
    · simp [hres] at h
    · exact ⟨hdropOne, length_of_not_incomplete (by simp [hdec]), by rw [hres]; rfl⟩

/-- R175: a buffer shorter than 3 bytes is incomplete, so each byte beyond the second costs at most one more scan. -/
theorem exists_scan_chain {n : Nat} {s : State} (hlen : s.rxBuf.length ≤ n + 2) (hscan : s.scan = true) :
    ∃ k t, 1 ≤ k ∧ k ≤ n + 1 ∧ execAll (List.replicate k .scan) s = .next t ∧ t.scan = false := by
  induction n generalizing s with
  | zero =>
    refine ⟨1, evalBuffer s, le_refl 1, le_refl 1, ?_, ?_⟩
    · exact execAll_cons_eq_next.mpr ⟨_, exec_of_effect (.scan hscan), rfl⟩
    · refine Bool.eq_false_iff.mpr fun hdue => ?_
      obtain ⟨_, hthree, _⟩ := evalBuffer_scan_due hdue
      omega
  | succ n ih =>
    cases hdue : (evalBuffer s).scan with
    | false =>
      exact ⟨1, evalBuffer s, le_refl 1, by omega,
        execAll_cons_eq_next.mpr ⟨_, exec_of_effect (.scan hscan), rfl⟩, hdue⟩
    | true =>
      obtain ⟨_, _, hbuf⟩ := evalBuffer_scan_due hdue
      have hshorter : (evalBuffer s).rxBuf.length ≤ n + 2 := by rw [hbuf, List.length_tail]; omega
      obtain ⟨k, t, _, hk, hrun, hdone⟩ := ih hshorter hdue
      exact ⟨k + 1, t, by omega, by omega,
        execAll_cons_eq_next.mpr ⟨_, exec_of_effect (.scan hscan), hrun⟩, hdone⟩

theorem evalBuffer_scan_of_dropAll {s : State} (h : s.ctrl.getLsbD 0 = true) : (evalBuffer s).scan = false := by
  refine Bool.eq_false_iff.mpr fun hdue => ?_
  obtain ⟨hdropOne, _⟩ := evalBuffer_scan_due hdue
  exact absurd (hdropOne.symm.trans h) Bool.false_ne_true

/-- R175: DROP_ALL leaves nothing to scan. The cases not named leave `s.scan` as it is or lower it. -/
theorem effect_scan_of_dropAll {i : Instr} {s t : State} (hctrl : s.ctrl.getLsbD 0 = true) (hscan : s.scan = false)
    (h : Effect s i t) : t.scan = false := by
  cases h with
  | rxEval b => exact evalBuffer_scan_of_dropAll (s := { s with rxBuf := s.rxBuf ++ [b] }) hctrl
  | scan => exact evalBuffer_scan_of_dropAll hctrl
  | abortOpen | popLast | tickTimeout | reset => rfl
  | _ => exact hscan

end Sys2Proof.Machine

section

open Sys2Proof Sys2Proof.Machine

/-- Settles O28: with no scan due, the byte takes one of the two cases of RX_BYTE. -/
theorem rxByteIsStrayOrEvaluated : Obligations.RxByteIsStrayOrEvaluated := by
  unfold Obligations.RxByteIsStrayOrEvaluated
  intro b s hscan
  refine ⟨fun hidle => exec_of_effect (.rxStray b hscan hidle), fun harmed => ?_⟩
  exact ⟨_, exec_of_effect (.rxEval b hscan harmed), evaluatesTo_evalBuffer (s.rxBuf ++ [b]) s⟩

/-- Settles O29: a scan evaluates the buffer as it stands. -/
theorem scanEvaluatesTheBuffer : Obligations.ScanEvaluatesTheBuffer := by
  unfold Obligations.ScanEvaluatesTheBuffer
  intro s hscan
  exact ⟨_, exec_of_effect (.scan hscan), evaluatesTo_evalBuffer s.rxBuf s⟩

/-- Settles O43: the buffer holds at most 18 bytes (R39 item 5). -/
theorem scanChainEnds : Obligations.ScanChainEnds := by
  unfold Obligations.ScanChainEnds
  intro s hs hscan
  exact exists_scan_chain (n := 16) hs.bufferBound hscan

/-- Settles O44, by `effect_scan_of_dropAll`. -/
theorem dropAllNeverRaisesScan : Obligations.DropAllNeverRaisesScan := by
  unfold Obligations.DropAllNeverRaisesScan
  intro i s t hctrl hscan h
  exact effect_scan_of_dropAll hctrl hscan (exec_eq_next_iff.mp h)

end

/-! ## R172, R176, R179: the attempt and its timer -/

namespace Sys2Proof.Machine

open Sys2Proof

/-- R179: the ways an instruction can end an attempt, with the result each leaves. -/
inductive EndsAttempt (i : Instr) (s t : State) : Prop where
  | decoded (hi : i = .scan ∨ ∃ b, i = .rxByte b) (hkind : t.resKind = 0x01#8) (hlink : t.linkOk = true)
  | timeout (hi : i = .tick) (hdue : s.timer + 1 = Config.tResp) (hkind : t.resKind = 0x02#8)
      (hlink : t.linkOk = false)
  | cancelled (hi : i = .abort) (hkind : t.resKind = 0x03#8) (hlink : t.linkOk = s.linkOk)
  | reset (hi : i = .reset) (hkind : t.resKind = 0x00#8)

/-- EVAL of the buffer `buf` leaves the attempt as it is, or ends it with a DECODED result. -/
theorem evalBuffer_rxArmed {i : Instr} (hi : i = .scan ∨ ∃ b, i = .rxByte b) (buf : List Byte) (s : State) :
    (evalBuffer { s with rxBuf := buf }).rxArmed = s.rxArmed ∨
      ((evalBuffer { s with rxBuf := buf }).rxArmed = false ∧
        EndsAttempt i s (evalBuffer { s with rxBuf := buf })) := by
  rcases evalBuffer_frame { s with rxBuf := buf } with ⟨_, _, _, heval⟩ | ⟨_, _, _, _, heval⟩
  · exact .inl (by rw [heval])
  · rw [heval]
    exact .inr ⟨rfl, .decoded hi rfl rfl⟩

/-- R172, R179: what an instruction can do to the attempt: leave it, open it at the last byte, or end it. -/
theorem effect_rxArmed {i : Instr} {s t : State} (h : Effect s i t) :
    t.rxArmed = s.rxArmed ∨
    (t.rxArmed = true ∧ i = .txPop ∧ s.txIdx.toNat + 1 = s.txLen.toNat) ∨
    (t.rxArmed = false ∧ EndsAttempt i s t) := by
  cases h with
  | popLast _ hlast => exact .inr (.inl ⟨rfl, rfl, hlast⟩)
  | abortOpen => exact .inr (.inr ⟨rfl, .cancelled rfl rfl rfl⟩)
  | rxEval b => exact (evalBuffer_rxArmed (.inr ⟨b, rfl⟩) (s.rxBuf ++ [b]) s).imp_right .inr
  | scan => exact (evalBuffer_rxArmed (.inl rfl) s.rxBuf s).imp_right .inr
  | tickTimeout _ hdue => exact .inr (.inr ⟨rfl, .timeout rfl hdue rfl rfl⟩)
  | reset => exact .inr (.inr ⟨rfl, .reset rfl rfl⟩)
  | _ => exact .inl rfl

end Sys2Proof.Machine

section

open Sys2Proof Sys2Proof.Machine

/-- Settles O30: a timer that does not reach the deadline fits its width, so the increment is not reduced. -/
theorem tickCountsUntilTheDeadline : Obligations.TickCountsUntilTheDeadline := by
  unfold Obligations.TickCountsUntilTheDeadline
  refine ⟨fun tResp tw s hpos hwidth htimer => ?_, fun s => rfl⟩
  rcases tickTimer_cases tResp tw s with ⟨harmed, htick⟩ | ⟨harmed, hdue, htick⟩ | ⟨harmed, hdue, htick⟩
  · exact ⟨fun _ => htick, by simp [harmed], by simp [harmed]⟩
  · exact ⟨by simp [harmed], fun _ _ => htick, fun _ hne => absurd hdue hne⟩
  · have hfits : (s.timer + 1) % 2 ^ tw = s.timer + 1 := Nat.mod_eq_of_lt (by omega)
    exact ⟨by simp [harmed], fun _ heq => absurd heq hdue, fun _ _ => by rw [htick, hfits]⟩

/-- Settles O41: a change of `s.rx_armed` is an opening or an ending of `effect_rxArmed`. -/
theorem attemptOpensAndEndsOnlyAsListed : Obligations.AttemptOpensAndEndsOnlyAsListed := by
  unfold Obligations.AttemptOpensAndEndsOnlyAsListed
  intro i s t h
  rcases effect_rxArmed (exec_eq_next_iff.mp h) with hsame | ⟨hopen, hlast⟩ | ⟨hend, hcause⟩
  · exact ⟨fun hs ht => by simp [hsame, hs] at ht, fun hs ht => by simp [hsame, hs] at ht⟩
  · exact ⟨fun _ _ => hlast, fun _ ht => by simp [hopen] at ht⟩
  · refine ⟨fun _ ht => by simp [hend] at ht, fun _ _ => ?_⟩
    cases hcause with
    | decoded hi hkind hlink => exact .inl ⟨hkind, hlink, hi⟩
    | timeout hi hdue hkind hlink => exact .inr (.inl ⟨hkind, hlink, hi, hdue⟩)
    | cancelled hi hkind hlink => exact .inr (.inr (.inl ⟨hkind, hlink, hi⟩))
    | reset hi hkind => exact .inr (.inr (.inr ⟨hkind, hi⟩))

end

/-! ## R177: the enabled steps and the step that is taken -/

namespace Sys2Proof.Machine

open Sys2Proof

/-- R177, the table read as conditions on the three steps that have one. -/
theorem enabled_iff (i : Instr) (s : State) :
    enabled i s = true ↔
      (i = .txPop → s.txBusy = true) ∧ ((∃ b, i = .rxByte b) → s.scan = false) ∧ (i = .scan → s.scan = true) := by
  cases i with
  | txPop | rxByte | scan => simp [enabled, txValid, rxReady]
  | _ => simp [enabled]

theorem enabled_of_effect {i : Instr} {s t : State} (h : Effect s i t) : enabled i s = true := by
  cases h with
  | popLast hbusy | popNext hbusy => exact hbusy
  | rxStray b hscan | rxEval b hscan => simp [enabled, rxReady, hscan]
  | scan hscan => exact hscan
  | _ => rfl

theorem exists_exec_iff_enabled (i : Instr) (s : State) : (∃ t, exec i s = .next t) ↔ enabled i s = true :=
  ⟨fun ⟨_, h⟩ => enabled_of_effect (exec_eq_next_iff.mp h), exists_exec_of_enabled⟩

/-- What is enabled does not depend on what is offered. -/
theorem enabled_reoffer (i : Instr) (offers : List RawStep) (draws : Nat) (s : State) :
    enabled i (reoffer offers draws s) = enabled i s := by
  cases i <;> rfl

theorem eq_holdOffer_of_pending {s : State} {r : RawStep} {rest : List RawStep} (h : s.pending = r :: rest) :
    s = holdOffer r { s with pending := rest } := by
  simp only [holdOffer, ← h]

/-- R174: the source holds the byte while the scanner moves. -/
theorem step_holdOffer_heldByte {b : Byte} {s : State} (hscan : s.scan = true) :
    step (holdOffer (.rxPort b) s) = exec .scan (holdOffer (.rxPort b) s) := by
  have hnext : nextOffer (holdOffer (.rxPort b) s) = (.rxPort b, s) := rfl
  have hoff : enabled (decode (.rxPort b)) s = false := by simp [decode, enabled, rxReady, hscan]
  simp only [step, scheduled, hnext, resolveOffer, hoff, Bool.false_eq_true, if_false]

/-- A take or a scan that is not enabled does not happen (log entry 2). -/
theorem step_holdOffer_dropped {r : RawStep} {s : State} (hr : r = .txPort ∨ r = .internal)
    (hoff : enabled (decode r) s = false) : step (holdOffer r s) = .next s := by
  have hnext : nextOffer (holdOffer r s) = (r, s) := rfl
  have hres : resolveOffer r s = (none, s) := by
    rcases resolveOffer_cases r s with ⟨hon, _⟩ | ⟨b, rfl, _⟩ | ⟨_, _, hres⟩
    · exact absurd (hoff.symm.trans hon) Bool.false_ne_true
    · simp at hr
    · exact hres
  simp only [step, scheduled, hnext, hres]

/-- A step reads the environment's side through the offer that is drawn only. -/
theorem step_congr {s t : State} (h : nextOffer s = nextOffer t) : step s = step t := by
  simp only [step, scheduled, h]

/-- A free draw is the step of the state in which the drawn step is the only one listed (log entry 1). -/
theorem nextOffer_of_none_pending {s : State} (h : s.pending = []) :
    nextOffer s = nextOffer { s with pending := [Config.agentStep s.draws], draws := s.draws + 1 } := by
  simp only [nextOffer, h]

end Sys2Proof.Machine

section

open Sys2Proof Sys2Proof.Machine

/-- Settles O34: what has a next state is what is enabled, and an enabled offer that stands first is taken. -/
theorem exactlyTheEnabledStepsComplete : Obligations.ExactlyTheEnabledStepsComplete := by
  unfold Obligations.ExactlyTheEnabledStepsComplete
  refine ⟨fun i s => (exists_exec_iff_enabled i s).trans (enabled_iff i s), fun i s t hwf h => ?_⟩
  have hdecode := decode_encode hwf
  have henabled : enabled (decode (encode i)) s = true := by
    rw [hdecode]; exact (exists_exec_iff_enabled i s).mp ⟨t, h⟩
  calc step { s with pending := encode i :: s.pending }
    _ = exec (decode (encode i)) s := step_holdOffer henabled
    _ = .next t := by rw [hdecode, h]

/-- Settles O32: the listed offer as a held one, resolved in each of its three ways. -/
theorem stepRunsTheOfferedInstruction : Obligations.StepRunsTheOfferedInstruction := by
  unfold Obligations.StepRunsTheOfferedInstruction
  refine ⟨fun s r rest hpending => ?_, fun s hnone => step_congr (nextOffer_of_none_pending hnone)⟩
  have hheld := eq_holdOffer_of_pending hpending
  refine ⟨fun hon => ?_, ?_, ?_, ?_⟩
  · rw [hheld]
    exact step_holdOffer ((enabled_reoffer (decode r) rest s.draws s).trans hon)
  · rintro ⟨b, rfl⟩ hscan
    rw [hheld]
    exact step_holdOffer_heldByte hscan
  · rintro rfl hbusy
    rw [hheld]
    exact step_holdOffer_dropped (.inl rfl) hbusy
  · rintro rfl hscan
    rw [hheld]
    exact step_holdOffer_dropped (.inr rfl) hscan

end

/-! ## R172, R173: transmission of a latched frame -/

namespace Sys2Proof.Machine

open Sys2Proof

/-- R173: the five bits of `s.tx_idx` hold the next index. -/
theorem txIdx_succ_toNat {s : State} (h : s.txIdx.toNat < 18) : (s.txIdx + 1#5).toNat = s.txIdx.toNat + 1 := by
  rw [BitVec.toNat_add, BitVec.toNat_ofNat]
  omega

/-- R83: TXALL is one TX_POP for each byte that is left. -/
theorem listed_txall (s : State) : listed (txall s) = List.replicate (s.txLen.toNat - s.txIdx.toNat) .txPop :=
  List.map_replicate

/-- R173: right after the frame `f` was latched, one TX_POP per byte emits `f` and arms the receiver. -/
theorem execAll_txPop_latchFrame {f : List Byte} (s : State) (hpos : 0 < f.length) (hlen : f.length ≤ 18) :
    execAll (List.replicate f.length .txPop) (latchFrame f s) =
      .next (arm (stopTransmit { latchFrame f s with txStream := s.txStream ++ f })) := by
  have hpops : listed (txall (latchFrame f s)) = List.replicate f.length .txPop := by
    rw [listed_txall, latchFrame_txLen_toNat s hlen]
    rfl
  rw [← hpops]
  exact execAll_txall_latchFrame s hpos hlen

end Sys2Proof.Machine

section

open Sys2Proof Sys2Proof.Machine

/-- Settles O27: the two cases of TX_POP. -/
theorem txPopEmitsAndArmsOnTheLastByte : Obligations.TxPopEmitsAndArmsOnTheLastByte := by
  unfold Obligations.TxPopEmitsAndArmsOnTheLastByte
  intro s hbusy hidx
  rw [← txByte_eq_getElem hidx]
  exact ⟨fun hlast => exec_of_effect (.popLast hbusy hlast), fun hnext =>
    ⟨_, exec_of_effect (.popNext hbusy hnext), txIdx_succ_toNat hidx, rfl⟩⟩

/-- Settles O46: the accepted SEND latches the encoded frame, of 3 to 18 bytes, and `execAll_txPop_latchFrame`. -/
theorem sentFrameLeavesInIndexOrder : Obligations.SentFrameLeavesInIndexOrder := by
  unfold Obligations.SentFrameLeavesInIndexOrder
  intro s hbusy harmed hshort
  have hops : (stagedOperands s).length ≤ 15 := (stagedOperands_length hshort).trans_le hshort
  have hframe := frame_length_of_staged hshort
  have hsend := exec_of_effect (.sendLatch ((exchangeOpen_eq_false s).mpr ⟨hbusy, harmed⟩) hshort)
  -- Reporting the outcome and latching the frame write different registers.
  have hpops := execAll_txPop_latchFrame (f := frameBytes s.regTxCat s.regTxFn (stagedOperands s))
    (reportCmd .ok s) (by omega) (by omega)
  exact ⟨_, _, _, encodeFrame_ok hops, hsend, hpops, rfl, rfl, rfl, rfl, rfl, rfl, rfl, rfl, rfl, rfl, rfl, rfl⟩

end

/-! ## R174, R202: reception of an encoded frame -/

namespace Sys2Proof.Machine

open Sys2Proof

/-- R174: bytes that complete no frame are assembled one after the other. -/
theorem execAll_rxByte_incomplete {bs : List Byte} {s : State} (harmed : s.rxArmed = true) (hscan : s.scan = false)
    (hwait : ∀ p, p <+: s.rxBuf ++ bs → tryDecode p = .incomplete) :
    execAll (bs.map Instr.rxByte) s = .next { s with rxBuf := s.rxBuf ++ bs } := by
  induction bs generalizing s with
  | nil => simp [execAll]
  | cons b bs ih =>
    have hsplit : s.rxBuf ++ b :: bs = s.rxBuf ++ [b] ++ bs := by simp
    have heval := exec_of_effect (.rxEval b hscan harmed)
    rw [evalBuffer_of_incomplete (s := { s with rxBuf := s.rxBuf ++ [b] })
      (hwait _ (hsplit ▸ List.prefix_append _ _))] at heval
    have hrun := ih (s := { s with rxBuf := s.rxBuf ++ [b], scan := false }) harmed rfl
      (fun p hp => hwait p (hsplit ▸ hp))
    refine execAll_cons_eq_next.mpr ⟨_, heval, hrun.trans ?_⟩
    rw [hsplit, ← hscan]

/-- R174, R170: the byte that completes a frame ends the attempt with it, no byte being left over. -/
theorem exec_rxByte_last {s : State} {b : Byte} {fr : Frame} (harmed : s.rxArmed = true) (hscan : s.scan = false)
    (hdec : tryDecode (s.rxBuf ++ [b]) = .decoded fr (s.rxBuf ++ [b]).length) :
    exec (.rxByte b) s = .next (finish (.decoded fr) { s with rxBuf := s.rxBuf ++ [b] }) := by
  rw [exec_of_effect (.rxEval b hscan harmed), evalBuffer_of_decoded (s := { s with rxBuf := s.rxBuf ++ [b] }) hdec,
    noteResidual, if_neg (lt_irrefl _)]

/-- R123: what comes before the checksum of an encoded frame is incomplete, however far it has come. -/
theorem tryDecode_prefix_frameHead {cat fn : Byte} {data p : List Byte} (hlen : data.length ≤ 15)
    (hp : p <+: frameHead cat fn data) : tryDecode p = .incomplete := by
  have hshort : p.length ≤ 2 + data.length := frameHead_length cat fn data ▸ hp.length_le
  refine shorterThanItsFrameIsIncomplete.2 (frameHead cat fn data) p (byte0 cat data.length) rfl hp ?_
  rw [and_0F_toNat, countOf_byte0 cat hlen]
  omega

/-- R174: an armed receiver with an empty buffer, given the bytes of an encoded frame, ends its attempt with it. -/
theorem execAll_rxByte_frameBytes (cat fn : Byte) {data : List Byte} {s : State} (hlen : data.length ≤ 15)
    (harmed : s.rxArmed = true) (hbuf : s.rxBuf = []) (hscan : s.scan = false) :
    execAll ((frameBytes cat fn data).map Instr.rxByte) s =
      .next (finish (.decoded (frameOf (frameBytes cat fn data))) { s with rxBuf := frameBytes cat fn data }) := by
  have hhead : execAll ((frameHead cat fn data).map Instr.rxByte) s =
      .next { s with rxBuf := frameHead cat fn data } := by
    have hrun := execAll_rxByte_incomplete (bs := frameHead cat fn data) harmed hscan
      (fun p hp => tryDecode_prefix_frameHead hlen (by simpa [hbuf] using hp))
    rwa [hbuf] at hrun
  have hdec := tryDecode_frameBytes cat fn hlen
  rw [← frameBytes_length cat fn data] at hdec
  have hlast := exec_rxByte_last (s := { s with rxBuf := frameHead cat fn data })
    (b := sum8 (frameHead cat fn data)) harmed hscan hdec
  rw [frameBytes, List.map_append, execAll_append_of_next hhead]
  exact execAll_cons_eq_next.mpr ⟨_, hlast, rfl⟩

theorem frameOf_frameBytes_n {data : List Byte} (cat fn : Byte) (hlen : data.length ≤ 15) :
    (frameOf (frameBytes cat fn data)).n.toNat = data.length :=
  countOf_byte0 cat hlen

theorem frameOf_frameBytes_checksum {data : List Byte} (cat fn : Byte) (hlen : data.length ≤ 15) :
    some (frameOf (frameBytes cat fn data)).checksum = (frameBytes cat fn data).getLast? := by
  have hchk := decoded_checksum (tryDecode_frameBytes cat fn hlen)
  rw [List.getLast?_eq_getElem?, frameBytes_length, hchk]

/-- R32, R171: the operands, and 0 past them. -/
theorem resultData_frameBytes {data : List Byte} (cat fn : Byte) (hlen : data.length ≤ 15) (i : Fin 15) :
    (resultData (.decoded (frameOf (frameBytes cat fn data))))[i.val] = (data[i.val]?).getD 0x00#8 := by
  simp only [resultData, Vector.getElem_ofFn, frameOf_frameBytes_n cat fn hlen, frameOf_frameBytes_data cat fn hlen]
  by_cases hi : i.val < data.length
  · rw [if_pos hi, List.getD_eq_getElem?_getD]
  · rw [if_neg hi, List.getElem?_eq_none (not_lt.mp hi), Option.getD_none]

end Sys2Proof.Machine

section

open Sys2Proof Sys2Proof.Machine

/-- Settles O48: `execAll_rxByte_frameBytes`, and the result registers read off the frame. -/
theorem receivedFrameBecomesTheResult : Obligations.ReceivedFrameBecomesTheResult := by
  unfold Obligations.ReceivedFrameBecomesTheResult
  intro cat fn data s hlen harmed hbuf hscan
  have hrun := execAll_rxByte_frameBytes cat fn hlen harmed hbuf hscan
  refine ⟨_, _, encodeFrame_ok hlen, hrun, rfl, rfl, rfl, frameOf_frameBytes_checksum cat fn hlen, ?_,
    resultData_frameBytes cat fn hlen, rfl, rfl, rfl, rfl, rfl⟩
  rw [finish_rxCnt, resultCnt, frameOf_frameBytes_n cat fn hlen]

end

/-! ## R205: the machine goes on -/

namespace Sys2Proof.Machine

open Sys2Proof

/-- R177, R205: an instruction is taken only in a state that enables it. The scan a held byte makes way for is due. -/
theorem enabled_of_resolveOffer {r : RawStep} {i : Instr} {s u : State} (h : resolveOffer r s = (some i, u)) :
    enabled i u = true := by
  rcases resolveOffer_cases r s with ⟨hon, hres⟩ | ⟨b, _, hscan, hres⟩ | ⟨_, _, hres⟩
  · obtain ⟨rfl, rfl⟩ : decode r = i ∧ s = u := by simpa [hres] using h
    exact hon
  · obtain ⟨rfl, rfl⟩ : .scan = i ∧ holdOffer r s = u := by simpa [hres] using h
    exact hscan
  · simp [hres] at h

end Sys2Proof.Machine

section

open Sys2Proof Sys2Proof.Machine

/-- Settles O35: what is taken is enabled, and what is enabled has a next state. -/
theorem stepNeverStops : Obligations.StepNeverStops := by
  unfold Obligations.StepNeverStops
  intro s
  unfold step
  split
  next i u hsched => exact exists_exec_of_enabled (enabled_of_resolveOffer hsched)
  next u _ => exact ⟨u, rfl⟩

end

/-! ## R204: the interrupt line -/

namespace Sys2Proof.Machine

open Sys2Proof

theorem irq_eq_true_iff (s : State) : irq s = true ↔ s.ctrl.getLsbD 1 = true ∧ s.resKind ≠ 0x00#8 := by
  simp [irq_eq]

theorem irq_eq_false_iff (s : State) : irq s = false ↔ ¬ (s.ctrl.getLsbD 1 = true ∧ s.resKind ≠ 0x00#8) := by
  rw [← irq_eq_true_iff, Bool.not_eq_true]

/-- R23, R142: the mask of WR_CTRL keeps `IRQ_EN`. -/
theorem getLsbD_irqEnable_written (d : Byte) : (d &&& 0x03#8).getLsbD 1 = d.getLsbD 1 := by
  simp

/-- R171, R179: the instructions by which a terminal result can come. -/
def endsWithResult (i : Instr) : Prop := i = .scan ∨ (∃ b, i = .rxByte b) ∨ i = .tick ∨ i = .abort

/-- What an instruction can do to the two registers that `irq` is computed from, `CTRL` and `RES_KIND` (R204). -/
inductive IrqInputs (s t : State) : Instr → Prop where
  | kept {i : Instr} (hctrl : t.ctrl = s.ctrl) (hkind : t.resKind = s.resKind) : IrqInputs s t i
  | ctrlWritten (d : Byte) (hctrl : t.ctrl = d &&& 0x03#8) (hkind : t.resKind = s.resKind) :
      IrqInputs s t (.wrCtrl d)
  | result {i : Instr} (hi : endsWithResult i) (hctrl : t.ctrl = s.ctrl) (hkind : t.resKind ≠ 0x00#8)
      (hdisarmed : t.rxArmed = false) : IrqInputs s t i
  | retired (hkind : t.resKind = 0x00#8) : IrqInputs s t .ack
  | reset (hkind : t.resKind = 0x00#8) : IrqInputs s t .reset

theorem resultCode_ne_zero (k : Terminal) : resultCode k ≠ 0x00#8 := by cases k <;> simp [resultCode]

/-- EVAL of the buffer `buf` writes neither register, or brings a DECODED result. -/
theorem irqInputs_evalBuffer {i : Instr} (hi : endsWithResult i) (buf : List Byte) (s : State) :
    IrqInputs s (evalBuffer { s with rxBuf := buf }) i := by
  rcases evalBuffer_frame { s with rxBuf := buf } with ⟨_, _, _, heval⟩ | ⟨fr, _, _, _, heval⟩
  · rw [heval]
    exact .kept rfl rfl
  · rw [heval]
    exact .result hi rfl (resultCode_ne_zero (.decoded fr)) rfl

theorem effect_irqInputs {i : Instr} {s t : State} (h : Effect s i t) : IrqInputs s t i := by
  cases h with
  | wrCtrl d => exact .ctrlWritten d rfl rfl
  | abortOpen => exact .result (.inr (.inr (.inr rfl))) rfl (resultCode_ne_zero .cancelled) rfl
  | ack => exact .retired rfl
  | rxEval b => exact irqInputs_evalBuffer (.inr (.inl ⟨b, rfl⟩)) (s.rxBuf ++ [b]) s
  | scan => exact irqInputs_evalBuffer (.inl rfl) s.rxBuf s
  | tickTimeout => exact .result (.inr (.inr (.inl rfl))) rfl (resultCode_ne_zero .timeout) rfl
  | reset => exact .reset rfl
  | _ => exact .kept rfl rfl

/-- R204: a falling line had a result pending under `IRQ_EN`, so one of the two went away. -/
theorem IrqInputs.fall {i : Instr} {s t : State} (h : IrqInputs s t i) (hs : irq s = true) (ht : irq t = false) :
    i = .ack ∨ i = .reset ∨ ∃ d, i = .wrCtrl d ∧ d.getLsbD 1 = false := by
  obtain ⟨henable, hpending⟩ := (irq_eq_true_iff s).mp hs
  have hlow := (irq_eq_false_iff t).mp ht
  cases h with
  | kept hctrl hkind => exact absurd ⟨hctrl ▸ henable, hkind ▸ hpending⟩ hlow
  | ctrlWritten d hctrl hkind =>
    rw [hctrl, getLsbD_irqEnable_written, hkind] at hlow
    exact .inr (.inr ⟨d, rfl, Bool.eq_false_iff.mpr fun hd => hlow ⟨hd, hpending⟩⟩)
  | result _ hctrl hkind => exact absurd ⟨hctrl ▸ henable, hkind⟩ hlow
  | retired => exact .inl rfl
  | reset => exact .inr (.inl rfl)

/-- R204: a rising line was unmasked over a pending result, or got a result under `IRQ_EN`. -/
theorem IrqInputs.rise {i : Instr} {s t : State} (h : IrqInputs s t i) (hs : irq s = false) (ht : irq t = true) :
    (∃ d, i = .wrCtrl d ∧ d.getLsbD 1 = true ∧ s.resKind ≠ 0x00#8) ∨
    (s.ctrl.getLsbD 1 = true ∧ s.resKind = 0x00#8 ∧ t.resKind ≠ 0x00#8 ∧ t.rxArmed = false ∧ endsWithResult i) := by
  obtain ⟨henable, hpending⟩ := (irq_eq_true_iff t).mp ht
  have hlow := (irq_eq_false_iff s).mp hs
  cases h with
  | kept hctrl hkind => exact absurd ⟨hctrl ▸ henable, hkind ▸ hpending⟩ hlow
  | ctrlWritten d hctrl hkind =>
    rw [hctrl, getLsbD_irqEnable_written] at henable
    exact .inl ⟨d, rfl, henable, hkind ▸ hpending⟩
  | result hi hctrl hkind hdisarmed =>
    have hwas : s.ctrl.getLsbD 1 = true := hctrl ▸ henable
    exact .inr ⟨hwas, not_not.mp fun hne => hlow ⟨hwas, hne⟩, hkind, hdisarmed, hi⟩
  | retired hkind | reset hkind => exact absurd hkind hpending

end Sys2Proof.Machine

section

open Sys2Proof Sys2Proof.Machine

/-- Settles O54: `irq` moves only with the registers it is computed from. -/
theorem interruptLineMovesOnlyAsListed : Obligations.InterruptLineMovesOnlyAsListed := by
  unfold Obligations.InterruptLineMovesOnlyAsListed
  intro i s t h
  have hinputs := effect_irqInputs (exec_eq_next_iff.mp h)
  exact ⟨hinputs.fall, hinputs.rise⟩

end

/-! ## R223: the result registers between two exchanges -/

namespace Sys2Proof.Machine

open Sys2Proof

/-- A property that the effect of each instruction of a run keeps holds at the end of the run. -/
theorem execAll_keeps {P : State → Prop} {is : List Instr} {s t : State}
    (heffect : ∀ i ∈ is, ∀ u v, P u → Effect u i v → P v) (hs : P s) (h : execAll is s = .next t) : P t := by
  induction is generalizing s with
  | nil =>
    obtain rfl : s = t := by simpa [execAll] using h
    exact hs
  | cons i is ih =>
    obtain ⟨m, hexec, hrun⟩ := execAll_cons_eq_next.mp h
    have hm : P m := heffect i List.mem_cons_self s m hs (exec_eq_next_iff.mp hexec)
    exact ih (fun j hj => heffect j (List.mem_cons_of_mem i hj)) hm hrun

/-- R39 along a run. -/
theorem execAll_keeps_assemblyInv {is : List Instr} {s t : State} (hs : AssemblyInv s)
    (h : execAll is s = .next t) : AssemblyInv t :=
  execAll_keeps (fun _ _ _ _ => effect_keeps_assemblyInv) hs h

theorem resultRegistersEqual_iff (s t : State) : ResultRegistersEqual s t ↔ resultPart t = resultPart s := by
  simp only [ResultRegistersEqual, resultPart, Prod.mk.injEq]

/-- The state `u` comes after `s` with no exchange in between: R39 holds, none is open, and the result is that of
`s`. -/
structure IdleSince (s u : State) : Prop where
  inv : AssemblyInv u
  idle : exchangeOpen u = false
  held : resultPart u = resultPart s

/-- R39 item 3: a scan is due only during an exchange. -/
theorem AssemblyInv.scan_of_idle {s : State} (hs : AssemblyInv s) (hidle : exchangeOpen s = false) :
    s.scan = false := by
  obtain ⟨_, hdisarmed⟩ := (exchangeOpen_eq_false s).mp hidle
  obtain ⟨_, hscan, _⟩ := hs.disarmed hdisarmed
  exact hscan

/-- R223: without an exchange, SEND alone opens one, and ACK and RESET alone write the result registers: the other
writers, ABORT, the evaluations and the timeout, need an open one. -/
theorem effect_of_idle {i : Instr} {s t : State} (hs : AssemblyInv s) (hidle : exchangeOpen s = false)
    (hsend : i ≠ .send) (hack : i ≠ .ack) (hreset : i ≠ .reset) (h : Effect s i t) :
    resultPart t = resultPart s ∧ exchangeOpen t = false := by
  obtain ⟨hquiet, hdisarmed⟩ := (exchangeOpen_eq_false s).mp hidle
  cases h with
  | sendBusy | sendTooLong | sendLatch => exact absurd rfl hsend
  | ack => exact absurd rfl hack
  | reset => exact absurd rfl hreset
  | abortOpen hopen => simp [hidle] at hopen
  | popLast hbusy | popNext hbusy => simp [hquiet] at hbusy
  | rxEval _ _ harmed | tickTimeout harmed | tickCount harmed => simp [hdisarmed] at harmed
  | scan hscan => simp [hs.scan_of_idle hidle] at hscan
  | _ => exact ⟨rfl, hidle⟩

theorem effect_keeps_idleSince {i : Instr} {s u v : State} (hsend : i ≠ .send) (hack : i ≠ .ack)
    (hreset : i ≠ .reset) (hu : IdleSince s u) (h : Effect u i v) : IdleSince s v := by
  obtain ⟨hheld, hidle⟩ := effect_of_idle hu.inv hu.idle hsend hack hreset h
  exact ⟨effect_keeps_assemblyInv hu.inv h, hidle, hheld.trans hu.held⟩

end Sys2Proof.Machine

section

open Sys2Proof Sys2Proof.Machine

/-- Settles O40: `IdleSince` the first state is kept along the run. -/
theorem resultHoldsUntilTheNextSend : Obligations.ResultHoldsUntilTheNextSend := by
  unfold Obligations.ResultHoldsUntilTheNextSend
  intro is s t hs hquiet hdisarmed hsend hack hreset h
  have hstart : IdleSince s s := ⟨hs, (exchangeOpen_eq_false s).mpr ⟨hquiet, hdisarmed⟩, rfl⟩
  have hend : IdleSince s t := execAll_keeps
    (fun i hi _ _ => effect_keeps_idleSince (ne_of_mem_of_not_mem hi hsend) (ne_of_mem_of_not_mem hi hack)
      (ne_of_mem_of_not_mem hi hreset)) hstart h
  exact ⟨(resultRegistersEqual_iff s t).mpr hend.held, (exchangeOpen_eq_false t).mp hend.idle⟩

end

/-! ## R230: the time an attempt may take -/

namespace Sys2Proof.Machine

open Sys2Proof

theorem armed_of_armedThroughout {is : List Instr} {s : State} (h : ArmedThroughout is s) : s.rxArmed = true := by
  cases is with
  | nil => exact h
  | cons i is => exact h.left

/-- R170, R171: an evaluation that leaves the attempt open does not touch the timer. -/
theorem evalBuffer_timer {s : State} (h : (evalBuffer s).rxArmed = true) : (evalBuffer s).timer = s.timer := by
  rcases evalBuffer_frame s with ⟨_, _, _, heval⟩ | ⟨_, _, _, _, heval⟩
  · rw [heval]
  · simp [heval] at h

/-- R6, R39 item 7: the timer has not reached the budget. -/
theorem AssemblyInv.timer_lt {s : State} (hs : AssemblyInv s) : s.timer < Config.tResp :=
  Nat.lt_succ_of_le hs.timerBound

/-- R36, R39 item 7: the timer's width holds the count of an attempt that is not due. -/
theorem AssemblyInv.timer_succ_mod {s : State} (hs : AssemblyInv s) (hdue : s.timer + 1 ≠ Config.tResp) :
    (s.timer + 1) % 2 ^ Config.tw = s.timer + 1 := by
  have hlt := hs.timer_lt
  have hwidth := lt_two_pow_tw
  exact Nat.mod_eq_of_lt (by omega)

/-- R172, R176: of the instructions that leave an open attempt open, TICK alone moves the timer, by one. -/
theorem effect_timer_of_armed {i : Instr} {s t : State} (hs : AssemblyInv s) (harmed : s.rxArmed = true)
    (hstill : t.rxArmed = true) (h : Effect s i t) : t.timer = s.timer + [i].count .tick := by
  cases h with
  | abortOpen | tickTimeout | reset => exact absurd hstill Bool.false_ne_true
  | popLast hbusy => simp [hs.txIdle_of_armed harmed] at hbusy
  | rxEval b => exact evalBuffer_timer hstill
  | scan => exact evalBuffer_timer hstill
  | tickIdle hidle => simp [harmed] at hidle
  | tickCount _ hdue => exact hs.timer_succ_mod hdue
  | _ => rfl

/-- R230: along a run that keeps the attempt open the timer counts the TICK steps. -/
theorem execAll_timer_of_armedThroughout {is : List Instr} {s t : State} (hs : AssemblyInv s)
    (hopen : ArmedThroughout is s) (h : execAll is s = .next t) :
    t.rxArmed = true ∧ t.timer = s.timer + is.count .tick := by
  induction is generalizing s with
  | nil =>
    obtain rfl : s = t := by simpa [execAll] using h
    exact ⟨hopen, rfl⟩
  | cons i is ih =>
    obtain ⟨m, hexec, hrun⟩ := execAll_cons_eq_next.mp h
    obtain ⟨harmed, hafter⟩ := hopen
    have heff := exec_eq_next_iff.mp hexec
    have hopen' := hafter m hexec
    have hfirst := effect_timer_of_armed hs harmed (armed_of_armedThroughout hopen') heff
    obtain ⟨hlast, hrest⟩ := ih (effect_keeps_assemblyInv hs heff) hopen' hrun
    refine ⟨hlast, ?_⟩
    calc t.timer = s.timer + [i].count .tick + is.count .tick := by rw [hrest, hfirst]
      _ = s.timer + (i :: is).count .tick := by rw [Nat.add_assoc, ← List.count_append, List.singleton_append]

/-- R176: a TICK ends an open attempt exactly at the deadline, with TIMEOUT. -/
theorem exec_tick_of_armed {s : State} (harmed : s.rxArmed = true) :
    ∃ u, exec .tick s = .next u ∧ (u.rxArmed = false ↔ s.timer + 1 = Config.tResp) ∧
      (u.rxArmed = false → u.resKind = 0x02#8 ∧ u.linkOk = false) := by
  by_cases hdue : s.timer + 1 = Config.tResp
  · exact ⟨_, exec_of_effect (.tickTimeout harmed hdue), iff_of_true rfl hdue, fun _ => ⟨rfl, rfl⟩⟩
  · exact ⟨_, exec_of_effect (.tickCount harmed hdue), by simp [harmed, hdue], by simp [harmed]⟩

end Sys2Proof.Machine

section

open Sys2Proof Sys2Proof.Machine

/-- Settles O42: the count along the run (`execAll_timer_of_armedThroughout`), then one TICK (`exec_tick_of_armed`). -/
theorem timeoutComesAtTheBudgetedTick : Obligations.TimeoutComesAtTheBudgetedTick := by
  unfold Obligations.TimeoutComesAtTheBudgetedTick
  refine ⟨fun is s t hs hopen h => ?_, fun s hidle => exec_of_effect (.tickIdle hidle)⟩
  obtain ⟨harmed, hcount⟩ := execAll_timer_of_armedThroughout hs hopen h
  refine ⟨hcount, (execAll_keeps_assemblyInv hs h).timer_lt, ?_⟩
  rw [← hcount]
  exact exec_tick_of_armed harmed

end

/-! ## R224: a policy change during a chain of scans -/

namespace Sys2Proof.Machine

open Sys2Proof

/-- R23, R142: the mask of WR_CTRL keeps `RESYNC`. -/
theorem getLsbD_resync_written (d : Byte) : (d &&& 0x03#8).getLsbD 0 = d.getLsbD 0 := by
  simp

/-- R170, R175: a scan empties an Invalid buffer under DROP_ALL, and sets `INV`. -/
theorem exec_scan_of_invalid_dropAll {s : State} (hscan : s.scan = true) (hdec : tryDecode s.rxBuf = .invalid)
    (hctrl : s.ctrl.getLsbD 0 = true) :
    exec .scan s = .next { s with flags := s.flags ||| 0x01#8, rxBuf := [], scan := false } := by
  have heval := (evaluatesTo_evalBuffer s.rxBuf s).invalidDropAll hdec hctrl
  rw [exec_of_effect (.scan hscan), heval]

end Sys2Proof.Machine

section

open Sys2Proof Sys2Proof.Machine

/-- Settles O45: WR_CTRL writes `CTRL` only, and the scan evaluates the same buffer under the policy just written. -/
theorem policyChangeActsAtTheNextEvaluation : Obligations.PolicyChangeActsAtTheNextEvaluation := by
  unfold Obligations.PolicyChangeActsAtTheNextEvaluation
  intro d s hscan hd hdec
  refine ⟨_, exec_of_effect (.wrCtrl d), hscan, rfl, ?_⟩
  have hctrl : (d &&& 0x03#8).getLsbD 0 = true := (getLsbD_resync_written d).trans hd
  exact exec_scan_of_invalid_dropAll (s := { s with ctrl := d &&& 0x03#8 }) hscan hdec hctrl

end

/-! ## R220: the state after RESET -/

namespace Sys2Proof.Machine

open Sys2Proof

theorem resetBlock_reset : resetBlock State.reset = State.reset := rfl

/-- R24, R33, R38: what is computed from the state reads none of the four fields that RESET keeps, so it is what it is
in `State.reset`. -/
theorem resetBlock_outputs (s : State) :
    status (resetBlock s) = 0x00#8 ∧ memRead (resetBlock s) 0x0D#6 = 0x00#8 ∧ txValid (resetBlock s) = false ∧
      irq (resetBlock s) = false ∧ rxReady (resetBlock s) = true := by
  show status State.reset = 0x00#8 ∧ memRead State.reset 0x0D#6 = 0x00#8 ∧ txValid State.reset = false ∧
    irq State.reset = false ∧ rxReady State.reset = true
  decide

/-- R174, R220: no attempt is open after RESET, so a byte is stray, the only flag then set. -/
theorem exec_rxByte_resetBlock (b : Byte) (s : State) :
    exec (.rxByte b) (resetBlock s) = .next { resetBlock s with flags := 0x02#8 } := by
  have hflags : withFlag .stray (resetBlock s).flags = 0x02#8 := BitVec.zero_or
  rw [exec_of_effect (.rxStray b rfl rfl), setFlag, hflags]

theorem reservedBitsZero_resetBlock (s : State) : ReservedBitsZero (resetBlock s) where
  ctrl := BitVec.zero_and
  flags := BitVec.zero_and
  cmdres := BitVec.zero_and
  resKind := BitVec.zero_and

theorem resultInv_resetBlock (s : State) : ResultInv (resetBlock s) :=
  resultInv_of_cleared (by decide : (0x00#8 : Byte) ≠ 0x01#8) ⟨rfl, rfl, rfl, rfl, rfl⟩

end Sys2Proof.Machine

section

open Sys2Proof Sys2Proof.Machine

/-- Settles O31: RESET takes its one effect, and each field is read off `resetBlock`. -/
theorem resetClearsTheBlock : Obligations.ResetClearsTheBlock := by
  unfold Obligations.ResetClearsTheBlock
  refine ⟨fun s => ⟨resetBlock s, exec_of_effect .reset, ?_⟩, fun t h => ?_⟩
  · obtain ⟨hstatus, hbuflen, hvalid, hirq, hready⟩ := resetBlock_outputs s
    simp [State.reset, hstatus, hbuflen, hvalid, hirq, hready, exec_rxByte_resetBlock]
  · obtain rfl : resetBlock State.reset = t := by simpa [exec_of_effect .reset] using h
    exact resetBlock_reset

/-- Settles O39: the state after reset is the one RESET leaves from it, and RESET brings all three. -/
theorem resetMeetsTheInvariants : Obligations.ResetMeetsTheInvariants := by
  unfold Obligations.ResetMeetsTheInvariants
  rw [← resetBlock_reset]
  exact ⟨assemblyInv_resetBlock _, reservedBitsZero_resetBlock _, resultInv_resetBlock _⟩

end

/-! ## R78 to R80: the words of the spec's examples and vectors -/

section

open Sys2Proof Sys2Proof.Machine

/-- Settles O6: each listed step is what the encoder offers its operation as, and each operation is well-formed
(0x00 is none of the three commands, and 0 is an operand index), so `decode_encode` reads it back. -/
theorem wordsOfTheVectorsDecode : Obligations.WordsOfTheVectorsDecode := by
  unfold Obligations.WordsOfTheVectorsDecode
  exact ⟨decode_encode (i := .rd 0x01#6) rfl, decode_encode (i := .wrCtrl 0xFF#8) rfl,
    decode_encode (i := .wrFlags 0x01#8) rfl, decode_encode (i := .send) rfl,
    decode_encode (i := .abort) rfl, decode_encode (i := .ack) rfl,
    decode_encode (i := .cmdRsvd 0x00#8) rfl, decode_encode (i := .wrTxCat 0x20#8) rfl,
    decode_encode (i := .wrTxFn 0x11#8) rfl, decode_encode (i := .wrTxLen 0x10#8) rfl,
    decode_encode (i := .wrTxData 0#4 0x55#8) rfl, decode_encode (i := .wrIgnoredResult 0#3 0x00#8) rfl,
    decode_encode (i := .rxByte 0xAA#8) rfl⟩

end
